-- ==== Sys2Proof/Word.lean ====
section
/-! DEFINITION. The two word sizes of the machine (00_scope.md R6, R8). -/

namespace Sys2Proof

/-- A memory cell, an 8-bit register, a port number or an operand byte (R6). -/
abbrev Byte := BitVec 8

/-- A memory address, SP, PC or a 16-bit operand (R6). -/
abbrev Word := BitVec 16

end Sys2Proof
end

