-- ==== Sys2Proof/Syntax.lean ====
section
/-! DEFINITION. The instructions: one constructor per row of spec/opcode_table.json, and the sum types of operands
that name families of them (10_state.md R21, R22, R25; 30_encoding.md R92, R96). -/

namespace Sys2Proof

/-- The seven 8-bit registers (R21). Code 6 is no register and has no constructor here (R22). -/
inductive Reg8
  | b | c | d | e | h | l | a
  deriving DecidableEq, Repr

/-- An 8-bit operand: a register, or the byte at address HL, written M (R22: a distinct case). -/
inductive Operand8
  | reg (r : Reg8)
  | mem
  deriving DecidableEq, Repr

/-- The pair codes of LXI, INX, DCX and DAD (R25). -/
inductive Pair
  | bc | de | hl | sp
  deriving DecidableEq, Repr

/-- The pair codes of PUSH and POP, where code 3 is PSW (R25, R32). -/
inductive StackPair
  | bc | de | hl | psw
  deriving DecidableEq, Repr

/-- The eight conditions of Jcc, Ccc and Rcc (R220). -/
inductive Cond
  | nz | z | nc | c | po | pe | p | m
  deriving DecidableEq, Repr

/-- The eight operations of the ALU group, field ooo (R92). -/
inductive AluOp
  | add | adc | sub | sbb | ana | xra | ora | cmp
  deriving DecidableEq, Repr

/-- An instruction: one constructor per opcode byte value (R94, R96), those with operand bytes first, each group in the
table's order (Lean compiles no constructor with fields past number 244). A constructor's name is the table's mnemonic; the ten alias rows (R97) end in their opcode value. Operands are the bytes after the opcode
(R93): `d8` one byte, `d16` and `a16` (an address) two. -/
inductive Instr
  | lxiB (d16 : Word)
  | mviB (d8 : Byte)
  | mviC (d8 : Byte)
  | lxiD (d16 : Word)
  | mviD (d8 : Byte)
  | mviE (d8 : Byte)
  | lxiH (d16 : Word)
  | shld (a16 : Word)
  | mviH (d8 : Byte)
  | lhld (a16 : Word)
  | mviL (d8 : Byte)
  | lxiSp (d16 : Word)
  | sta (a16 : Word)
  | mviM (d8 : Byte)
  | lda (a16 : Word)
  | mviA (d8 : Byte)
  | jnz (a16 : Word)
  | jmp (a16 : Word)
  | cnz (a16 : Word)
  | adi (d8 : Byte)
  | jz (a16 : Word)
  | jmpCB (a16 : Word)
  | cz (a16 : Word)
  | call (a16 : Word)
  | aci (d8 : Byte)
  | jnc (a16 : Word)
  | outPort (d8 : Byte)
  | cnc (a16 : Word)
  | sui (d8 : Byte)
  | jc (a16 : Word)
  | inPort (d8 : Byte)
  | cc (a16 : Word)
  | callDD (a16 : Word)
  | sbi (d8 : Byte)
  | jpo (a16 : Word)
  | cpo (a16 : Word)
  | ani (d8 : Byte)
  | jpe (a16 : Word)
  | cpe (a16 : Word)
  | callED (a16 : Word)
  | xri (d8 : Byte)
  | jp (a16 : Word)
  | cp (a16 : Word)
  | ori (d8 : Byte)
  | jm (a16 : Word)
  | cm (a16 : Word)
  | callFD (a16 : Word)
  | cpi (d8 : Byte)
  | nop
  | staxB
  | inxB
  | inrB
  | dcrB
  | rlc
  | nop08
  | dadB
  | ldaxB
  | dcxB
  | inrC
  | dcrC
  | rrc
  | nop10
  | staxD
  | inxD
  | inrD
  | dcrD
  | ral
  | nop18
  | dadD
  | ldaxD
  | dcxD
  | inrE
  | dcrE
  | rar
  | rim
  | inxH
  | inrH
  | dcrH
  | daa
  | nop28
  | dadH
  | dcxH
  | inrL
  | dcrL
  | cma
  | sim
  | inxSp
  | inrM
  | dcrM
  | stc
  | nop38
  | dadSp
  | dcxSp
  | inrA
  | dcrA
  | cmc
  | movBB
  | movBC
  | movBD
  | movBE
  | movBH
  | movBL
  | movBM
  | movBA
  | movCB
  | movCC
  | movCD
  | movCE
  | movCH
  | movCL
  | movCM
  | movCA
  | movDB
  | movDC
  | movDD
  | movDE
  | movDH
  | movDL
  | movDM
  | movDA
  | movEB
  | movEC
  | movED
  | movEE
  | movEH
  | movEL
  | movEM
  | movEA
  | movHB
  | movHC
  | movHD
  | movHE
  | movHH
  | movHL
  | movHM
  | movHA
  | movLB
  | movLC
  | movLD
  | movLE
  | movLH
  | movLL
  | movLM
  | movLA
  | movMB
  | movMC
  | movMD
  | movME
  | movMH
  | movML
  | hlt
  | movMA
  | movAB
  | movAC
  | movAD
  | movAE
  | movAH
  | movAL
  | movAM
  | movAA
  | addB
  | addC
  | addD
  | addE
  | addH
  | addL
  | addM
  | addA
  | adcB
  | adcC
  | adcD
  | adcE
  | adcH
  | adcL
  | adcM
  | adcA
  | subB
  | subC
  | subD
  | subE
  | subH
  | subL
  | subM
  | subA
  | sbbB
  | sbbC
  | sbbD
  | sbbE
  | sbbH
  | sbbL
  | sbbM
  | sbbA
  | anaB
  | anaC
  | anaD
  | anaE
  | anaH
  | anaL
  | anaM
  | anaA
  | xraB
  | xraC
  | xraD
  | xraE
  | xraH
  | xraL
  | xraM
  | xraA
  | oraB
  | oraC
  | oraD
  | oraE
  | oraH
  | oraL
  | oraM
  | oraA
  | cmpB
  | cmpC
  | cmpD
  | cmpE
  | cmpH
  | cmpL
  | cmpM
  | cmpA
  | rnz
  | popB
  | pushB
  | rst0
  | rz
  | ret
  | rst1
  | rnc
  | popD
  | pushD
  | rst2
  | rc
  | retD9
  | rst3
  | rpo
  | popH
  | xthl
  | pushH
  | rst4
  | rpe
  | pchl
  | xchg
  | rst5
  | rp
  | popPsw
  | di
  | pushPsw
  | rst6
  | rm
  | sphl
  | ei
  | rst7
  deriving DecidableEq, Repr

end Sys2Proof
end

