-- ==== Sys2Proof/Decode.lean ====
section
/-! DEFINITION. The decoder and the encoder. The decoder reads the fields of the opcode byte as 30_encoding.md R92
and the patterns of R96 give them; the encoder is written separately, one line per row of spec/opcode_table.json. -/

namespace Sys2Proof

/-! ### Byte order -/

/-- `hi:lo`, the word with `hi` in bits 15..8 and `lo` in bits 7..0 (00_scope.md R8). -/
def wordOf (hi lo : Byte) : Word := hi ++ lo

/-- Bits 15..8 of a word (R8). -/
def hiByte (w : Word) : Byte := w.extractLsb' 8 8

/-- Bits 7..0 of a word (R8). -/
def loByte (w : Word) : Byte := w.extractLsb' 0 8

/-! ### Fields of the opcode byte (R92) -/

/-- Bits 7..6: the quadrant. -/
def quadrant (op : Byte) : BitVec 2 := op.extractLsb' 6 2

/-- Bits 5..3: ddd, ooo, ccc or nnn. -/
def field53 (op : Byte) : BitVec 3 := op.extractLsb' 3 3

/-- Bits 2..0: sss. -/
def field20 (op : Byte) : BitVec 3 := op.extractLsb' 0 3

/-- Bits 5..4: rp. -/
def field54 (op : Byte) : BitVec 2 := op.extractLsb' 4 2

/-! ### Code maps (R21, R25, R92, R220) -/

/-- "0=B,1=C,2=D,3=E,4=H,5=L,6=memory-via-HL,7=A" (R21). -/
def operandOf (code : BitVec 3) : Operand8 :=
  match code.toNat with
  | 0 => .reg .b
  | 1 => .reg .c
  | 2 => .reg .d
  | 3 => .reg .e
  | 4 => .reg .h
  | 5 => .reg .l
  | 6 => .mem
  | _ => .reg .a

/-- The register code of a register (R21). -/
def regCode : Reg8 → BitVec 3
  | .b => 0
  | .c => 1
  | .d => 2
  | .e => 3
  | .h => 4
  | .l => 5
  | .a => 7

/-- The 3-bit code of an operand; code 6 is the memory operand (R22). -/
def operandCode : Operand8 → BitVec 3
  | .reg r => regCode r
  | .mem => 6

/-- "0=BC,1=DE,2=HL,3=SP" (R25). -/
def pairOf (code : BitVec 2) : Pair :=
  match code.toNat with
  | 0 => .bc
  | 1 => .de
  | 2 => .hl
  | _ => .sp

/-- The pair code of a pair (R25). -/
def pairCode : Pair → BitVec 2
  | .bc => 0
  | .de => 1
  | .hl => 2
  | .sp => 3

/-- In PUSH and POP pair code 3 selects PSW (R25, R32). -/
def stackPairOf (code : BitVec 2) : StackPair :=
  match code.toNat with
  | 0 => .bc
  | 1 => .de
  | 2 => .hl
  | _ => .psw

/-- The pair code of a PUSH or POP operand (R25, R32). -/
def stackPairCode : StackPair → BitVec 2
  | .bc => 0
  | .de => 1
  | .hl => 2
  | .psw => 3

/-- The conditions by their codes ccc (R220). -/
def condOf (code : BitVec 3) : Cond :=
  match code.toNat with
  | 0 => .nz
  | 1 => .z
  | 2 => .nc
  | 3 => .c
  | 4 => .po
  | 5 => .pe
  | 6 => .p
  | _ => .m

/-- The code ccc of a condition (R220). -/
def condCode : Cond → BitVec 3
  | .nz => 0
  | .z => 1
  | .nc => 2
  | .c => 3
  | .po => 4
  | .pe => 5
  | .p => 6
  | .m => 7

/-- The ALU operations by their codes ooo (R92). -/
def aluOpOf (code : BitVec 3) : AluOp :=
  match code.toNat with
  | 0 => .add
  | 1 => .adc
  | 2 => .sub
  | 3 => .sbb
  | 4 => .ana
  | 5 => .xra
  | 6 => .ora
  | _ => .cmp

/-- The code ooo of an ALU operation (R92). -/
def aluOpCode : AluOp → BitVec 3
  | .add => 0
  | .adc => 1
  | .sub => 2
  | .sbb => 3
  | .ana => 4
  | .xra => 5
  | .ora => 6
  | .cmp => 7

/-! ### Families: the constructor a pattern of R96 names, given its fields -/

/-- Pattern `01dddsss`: MOV, but for 0x76, which is HLT: there is no MOV M,M (R96). -/
def movOf : Operand8 → Operand8 → Instr
  | .reg .b, .reg .b => .movBB
  | .reg .b, .reg .c => .movBC
  | .reg .b, .reg .d => .movBD
  | .reg .b, .reg .e => .movBE
  | .reg .b, .reg .h => .movBH
  | .reg .b, .reg .l => .movBL
  | .reg .b, .mem => .movBM
  | .reg .b, .reg .a => .movBA
  | .reg .c, .reg .b => .movCB
  | .reg .c, .reg .c => .movCC
  | .reg .c, .reg .d => .movCD
  | .reg .c, .reg .e => .movCE
  | .reg .c, .reg .h => .movCH
  | .reg .c, .reg .l => .movCL
  | .reg .c, .mem => .movCM
  | .reg .c, .reg .a => .movCA
  | .reg .d, .reg .b => .movDB
  | .reg .d, .reg .c => .movDC
  | .reg .d, .reg .d => .movDD
  | .reg .d, .reg .e => .movDE
  | .reg .d, .reg .h => .movDH
  | .reg .d, .reg .l => .movDL
  | .reg .d, .mem => .movDM
  | .reg .d, .reg .a => .movDA
  | .reg .e, .reg .b => .movEB
  | .reg .e, .reg .c => .movEC
  | .reg .e, .reg .d => .movED
  | .reg .e, .reg .e => .movEE
  | .reg .e, .reg .h => .movEH
  | .reg .e, .reg .l => .movEL
  | .reg .e, .mem => .movEM
  | .reg .e, .reg .a => .movEA
  | .reg .h, .reg .b => .movHB
  | .reg .h, .reg .c => .movHC
  | .reg .h, .reg .d => .movHD
  | .reg .h, .reg .e => .movHE
  | .reg .h, .reg .h => .movHH
  | .reg .h, .reg .l => .movHL
  | .reg .h, .mem => .movHM
  | .reg .h, .reg .a => .movHA
  | .reg .l, .reg .b => .movLB
  | .reg .l, .reg .c => .movLC
  | .reg .l, .reg .d => .movLD
  | .reg .l, .reg .e => .movLE
  | .reg .l, .reg .h => .movLH
  | .reg .l, .reg .l => .movLL
  | .reg .l, .mem => .movLM
  | .reg .l, .reg .a => .movLA
  | .mem, .reg .b => .movMB
  | .mem, .reg .c => .movMC
  | .mem, .reg .d => .movMD
  | .mem, .reg .e => .movME
  | .mem, .reg .h => .movMH
  | .mem, .reg .l => .movML
  | .mem, .mem => .hlt
  | .mem, .reg .a => .movMA
  | .reg .a, .reg .b => .movAB
  | .reg .a, .reg .c => .movAC
  | .reg .a, .reg .d => .movAD
  | .reg .a, .reg .e => .movAE
  | .reg .a, .reg .h => .movAH
  | .reg .a, .reg .l => .movAL
  | .reg .a, .mem => .movAM
  | .reg .a, .reg .a => .movAA

/-- Pattern `10ooosss`: ALU operation on A and an operand (R96). -/
def aluOf : AluOp → Operand8 → Instr
  | .add, .reg .b => .addB
  | .add, .reg .c => .addC
  | .add, .reg .d => .addD
  | .add, .reg .e => .addE
  | .add, .reg .h => .addH
  | .add, .reg .l => .addL
  | .add, .mem => .addM
  | .add, .reg .a => .addA
  | .adc, .reg .b => .adcB
  | .adc, .reg .c => .adcC
  | .adc, .reg .d => .adcD
  | .adc, .reg .e => .adcE
  | .adc, .reg .h => .adcH
  | .adc, .reg .l => .adcL
  | .adc, .mem => .adcM
  | .adc, .reg .a => .adcA
  | .sub, .reg .b => .subB
  | .sub, .reg .c => .subC
  | .sub, .reg .d => .subD
  | .sub, .reg .e => .subE
  | .sub, .reg .h => .subH
  | .sub, .reg .l => .subL
  | .sub, .mem => .subM
  | .sub, .reg .a => .subA
  | .sbb, .reg .b => .sbbB
  | .sbb, .reg .c => .sbbC
  | .sbb, .reg .d => .sbbD
  | .sbb, .reg .e => .sbbE
  | .sbb, .reg .h => .sbbH
  | .sbb, .reg .l => .sbbL
  | .sbb, .mem => .sbbM
  | .sbb, .reg .a => .sbbA
  | .ana, .reg .b => .anaB
  | .ana, .reg .c => .anaC
  | .ana, .reg .d => .anaD
  | .ana, .reg .e => .anaE
  | .ana, .reg .h => .anaH
  | .ana, .reg .l => .anaL
  | .ana, .mem => .anaM
  | .ana, .reg .a => .anaA
  | .xra, .reg .b => .xraB
  | .xra, .reg .c => .xraC
  | .xra, .reg .d => .xraD
  | .xra, .reg .e => .xraE
  | .xra, .reg .h => .xraH
  | .xra, .reg .l => .xraL
  | .xra, .mem => .xraM
  | .xra, .reg .a => .xraA
  | .ora, .reg .b => .oraB
  | .ora, .reg .c => .oraC
  | .ora, .reg .d => .oraD
  | .ora, .reg .e => .oraE
  | .ora, .reg .h => .oraH
  | .ora, .reg .l => .oraL
  | .ora, .mem => .oraM
  | .ora, .reg .a => .oraA
  | .cmp, .reg .b => .cmpB
  | .cmp, .reg .c => .cmpC
  | .cmp, .reg .d => .cmpD
  | .cmp, .reg .e => .cmpE
  | .cmp, .reg .h => .cmpH
  | .cmp, .reg .l => .cmpL
  | .cmp, .mem => .cmpM
  | .cmp, .reg .a => .cmpA

/-- Pattern `11ooo110`: ALU operation on A and d8 (R96). -/
def aluImmOf : AluOp → Byte → Instr
  | .add, d8 => .adi d8
  | .adc, d8 => .aci d8
  | .sub, d8 => .sui d8
  | .sbb, d8 => .sbi d8
  | .ana, d8 => .ani d8
  | .xra, d8 => .xri d8
  | .ora, d8 => .ori d8
  | .cmp, d8 => .cpi d8

/-- Pattern `00ddd110`: MVI (R96). -/
def mviOf : Operand8 → Byte → Instr
  | .reg .b, d8 => .mviB d8
  | .reg .c, d8 => .mviC d8
  | .reg .d, d8 => .mviD d8
  | .reg .e, d8 => .mviE d8
  | .reg .h, d8 => .mviH d8
  | .reg .l, d8 => .mviL d8
  | .mem, d8 => .mviM d8
  | .reg .a, d8 => .mviA d8

/-- Pattern `00ddd100`: INR (R96). -/
def inrOf : Operand8 → Instr
  | .reg .b => .inrB
  | .reg .c => .inrC
  | .reg .d => .inrD
  | .reg .e => .inrE
  | .reg .h => .inrH
  | .reg .l => .inrL
  | .mem => .inrM
  | .reg .a => .inrA

/-- Pattern `00ddd101`: DCR (R96). -/
def dcrOf : Operand8 → Instr
  | .reg .b => .dcrB
  | .reg .c => .dcrC
  | .reg .d => .dcrD
  | .reg .e => .dcrE
  | .reg .h => .dcrH
  | .reg .l => .dcrL
  | .mem => .dcrM
  | .reg .a => .dcrA

/-- Pattern `00pp0001`: LXI (R96). -/
def lxiOf : Pair → Word → Instr
  | .bc, d16 => .lxiB d16
  | .de, d16 => .lxiD d16
  | .hl, d16 => .lxiH d16
  | .sp, d16 => .lxiSp d16

/-- Pattern `00pp0011`: INX (R96). -/
def inxOf : Pair → Instr
  | .bc => .inxB
  | .de => .inxD
  | .hl => .inxH
  | .sp => .inxSp

/-- Pattern `00pp1011`: DCX (R96). -/
def dcxOf : Pair → Instr
  | .bc => .dcxB
  | .de => .dcxD
  | .hl => .dcxH
  | .sp => .dcxSp

/-- Pattern `00pp1001`: DAD (R96). -/
def dadOf : Pair → Instr
  | .bc => .dadB
  | .de => .dadD
  | .hl => .dadH
  | .sp => .dadSp

/-- Pattern `11pp0001`: POP, code 3 being PSW (R96). -/
def popOf : StackPair → Instr
  | .bc => .popB
  | .de => .popD
  | .hl => .popH
  | .psw => .popPsw

/-- Pattern `11pp0101`: PUSH, code 3 being PSW (R96). -/
def pushOf : StackPair → Instr
  | .bc => .pushB
  | .de => .pushD
  | .hl => .pushH
  | .psw => .pushPsw

/-- Pattern `11ccc010`: Jcc (R96). -/
def jccOf : Cond → Word → Instr
  | .nz, a16 => .jnz a16
  | .z, a16 => .jz a16
  | .nc, a16 => .jnc a16
  | .c, a16 => .jc a16
  | .po, a16 => .jpo a16
  | .pe, a16 => .jpe a16
  | .p, a16 => .jp a16
  | .m, a16 => .jm a16

/-- Pattern `11ccc100`: Ccc (R96). -/
def cccOf : Cond → Word → Instr
  | .nz, a16 => .cnz a16
  | .z, a16 => .cz a16
  | .nc, a16 => .cnc a16
  | .c, a16 => .cc a16
  | .po, a16 => .cpo a16
  | .pe, a16 => .cpe a16
  | .p, a16 => .cp a16
  | .m, a16 => .cm a16

/-- Pattern `11ccc000`: Rcc (R96). -/
def rccOf : Cond → Instr
  | .nz => .rnz
  | .z => .rz
  | .nc => .rnc
  | .c => .rc
  | .po => .rpo
  | .pe => .rpe
  | .p => .rp
  | .m => .rm

/-- Pattern `11nnn111`: RST nnn (R96). -/
def rstOf (n : BitVec 3) : Instr :=
  match n.toNat with
  | 0 => .rst0
  | 1 => .rst1
  | 2 => .rst2
  | 3 => .rst3
  | 4 => .rst4
  | 5 => .rst5
  | 6 => .rst6
  | _ => .rst7

/-! ### The decoder -/

/-- Quadrant 0 (R96): the `00xxxxxx` rows. -/
def decodeQuadrant0 (op z w : Byte) : Instr :=
  let y := (field53 op).toNat
  match (field20 op).toNat with
  | 0 =>
    match y with
    | 0 => .nop
    | 1 => .nop08
    | 2 => .nop10
    | 3 => .nop18
    | 4 => .rim
    | 5 => .nop28
    | 6 => .sim
    | _ => .nop38
  | 1 => if y % 2 = 0 then lxiOf (pairOf (field54 op)) (wordOf w z) else dadOf (pairOf (field54 op))
  | 2 =>
    match y with
    | 0 => .staxB
    | 1 => .ldaxB
    | 2 => .staxD
    | 3 => .ldaxD
    | 4 => .shld (wordOf w z)
    | 5 => .lhld (wordOf w z)
    | 6 => .sta (wordOf w z)
    | _ => .lda (wordOf w z)
  | 3 => if y % 2 = 0 then inxOf (pairOf (field54 op)) else dcxOf (pairOf (field54 op))
  | 4 => inrOf (operandOf (field53 op))
  | 5 => dcrOf (operandOf (field53 op))
  | 6 => mviOf (operandOf (field53 op)) z
  | _ =>
    match y with
    | 0 => .rlc
    | 1 => .rrc
    | 2 => .ral
    | 3 => .rar
    | 4 => .daa
    | 5 => .cma
    | 6 => .stc
    | _ => .cmc

/-- Quadrant 3 (R96): the `11xxxxxx` rows. -/
def decodeQuadrant3 (op z w : Byte) : Instr :=
  let y := (field53 op).toNat
  match (field20 op).toNat with
  | 0 => rccOf (condOf (field53 op))
  | 1 =>
    match y with
    | 1 => .ret
    | 3 => .retD9
    | 5 => .pchl
    | 7 => .sphl
    | _ => popOf (stackPairOf (field54 op))
  | 2 => jccOf (condOf (field53 op)) (wordOf w z)
  | 3 =>
    match y with
    | 0 => .jmp (wordOf w z)
    | 1 => .jmpCB (wordOf w z)
    | 2 => .outPort z
    | 3 => .inPort z
    | 4 => .xthl
    | 5 => .xchg
    | 6 => .di
    | _ => .ei
  | 4 => cccOf (condOf (field53 op)) (wordOf w z)
  | 5 =>
    match y with
    | 1 => .call (wordOf w z)
    | 3 => .callDD (wordOf w z)
    | 5 => .callED (wordOf w z)
    | 7 => .callFD (wordOf w z)
    | _ => pushOf (stackPairOf (field54 op))
  | 6 => aluImmOf (aluOpOf (field53 op)) z
  | _ => rstOf (field53 op)

/-- The 256-entry table (R94, R104): the instruction of opcode `op` with operand bytes `z` (the first, low) and `w`
(the second, high): d8 = z, d16 = w:z (R93). Total; bytes the instruction does not have are not read. -/
def decodeOpcode (op z w : Byte) : Instr :=
  match (quadrant op).toNat with
  | 0 => decodeQuadrant0 op z w
  | 1 => movOf (operandOf (field53 op)) (operandOf (field20 op))
  | 2 => aluOf (aluOpOf (field53 op)) (operandOf (field20 op))
  | _ => decodeQuadrant3 op z w

/-- How many operand bytes follow the opcode byte (R90, R91, R95), by the patterns of R96. -/
def operandCount (op : Byte) : Nat :=
  let y := (field53 op).toNat
  match (quadrant op).toNat, (field20 op).toNat with
  | 0, 1 => if y % 2 = 0 then 2 else 0
  | 0, 2 => if 4 ≤ y then 2 else 0
  | 0, 6 => 1
  | 3, 2 => 2
  | 3, 3 => if y ≤ 1 then 2 else if y ≤ 3 then 1 else 0
  | 3, 4 => 2
  | 3, 5 => if y % 2 = 1 then 2 else 0
  | 3, 6 => 1
  | _, _ => 0

/-- Why a byte list is no instruction. No opcode is illegal (R99): bytes can only be missing. -/
inductive DecodeError
  /-- There is no opcode byte. Raised by `decode` on the empty list; the machine's fetch never meets it. -/
  | noBytes
  /-- The opcode has more operand bytes than the list holds. Raised by `decode`; the machine's fetch never meets it. -/
  | truncated (op : Byte)
  deriving DecidableEq, Repr

/-- Decode the first instruction of a byte list and return the bytes after it (R90): total, rejecting by name. -/
def decode (bytes : List Byte) : Except DecodeError (Instr × List Byte) :=
  match bytes with
  | [] => .error .noBytes
  | op :: rest =>
    match operandCount op, rest with
    | 0, rest => .ok (decodeOpcode op 0 0, rest)
    | 1, z :: rest => .ok (decodeOpcode op z 0, rest)
    | 2, z :: w :: rest => .ok (decodeOpcode op z w, rest)
    | _, _ => .error (.truncated op)

/-! ### The encoder -/

/-- The bytes of an instruction, from the rows of spec/opcode_table.json: the opcode, then d8, or the low and the
high byte of d16 (R91). -/
def encode : Instr → List Byte
  | .nop => [0x00]
  | .lxiB d16 => [0x01, loByte d16, hiByte d16]
  | .staxB => [0x02]
  | .inxB => [0x03]
  | .inrB => [0x04]
  | .dcrB => [0x05]
  | .mviB d8 => [0x06, d8]
  | .rlc => [0x07]
  | .nop08 => [0x08]
  | .dadB => [0x09]
  | .ldaxB => [0x0A]
  | .dcxB => [0x0B]
  | .inrC => [0x0C]
  | .dcrC => [0x0D]
  | .mviC d8 => [0x0E, d8]
  | .rrc => [0x0F]
  | .nop10 => [0x10]
  | .lxiD d16 => [0x11, loByte d16, hiByte d16]
  | .staxD => [0x12]
  | .inxD => [0x13]
  | .inrD => [0x14]
  | .dcrD => [0x15]
  | .mviD d8 => [0x16, d8]
  | .ral => [0x17]
  | .nop18 => [0x18]
  | .dadD => [0x19]
  | .ldaxD => [0x1A]
  | .dcxD => [0x1B]
  | .inrE => [0x1C]
  | .dcrE => [0x1D]
  | .mviE d8 => [0x1E, d8]
  | .rar => [0x1F]
  | .rim => [0x20]
  | .lxiH d16 => [0x21, loByte d16, hiByte d16]
  | .shld a16 => [0x22, loByte a16, hiByte a16]
  | .inxH => [0x23]
  | .inrH => [0x24]
  | .dcrH => [0x25]
  | .mviH d8 => [0x26, d8]
  | .daa => [0x27]
  | .nop28 => [0x28]
  | .dadH => [0x29]
  | .lhld a16 => [0x2A, loByte a16, hiByte a16]
  | .dcxH => [0x2B]
  | .inrL => [0x2C]
  | .dcrL => [0x2D]
  | .mviL d8 => [0x2E, d8]
  | .cma => [0x2F]
  | .sim => [0x30]
  | .lxiSp d16 => [0x31, loByte d16, hiByte d16]
  | .sta a16 => [0x32, loByte a16, hiByte a16]
  | .inxSp => [0x33]
  | .inrM => [0x34]
  | .dcrM => [0x35]
  | .mviM d8 => [0x36, d8]
  | .stc => [0x37]
  | .nop38 => [0x38]
  | .dadSp => [0x39]
  | .lda a16 => [0x3A, loByte a16, hiByte a16]
  | .dcxSp => [0x3B]
  | .inrA => [0x3C]
  | .dcrA => [0x3D]
  | .mviA d8 => [0x3E, d8]
  | .cmc => [0x3F]
  | .movBB => [0x40]
  | .movBC => [0x41]
  | .movBD => [0x42]
  | .movBE => [0x43]
  | .movBH => [0x44]
  | .movBL => [0x45]
  | .movBM => [0x46]
  | .movBA => [0x47]
  | .movCB => [0x48]
  | .movCC => [0x49]
  | .movCD => [0x4A]
  | .movCE => [0x4B]
  | .movCH => [0x4C]
  | .movCL => [0x4D]
  | .movCM => [0x4E]
  | .movCA => [0x4F]
  | .movDB => [0x50]
  | .movDC => [0x51]
  | .movDD => [0x52]
  | .movDE => [0x53]
  | .movDH => [0x54]
  | .movDL => [0x55]
  | .movDM => [0x56]
  | .movDA => [0x57]
  | .movEB => [0x58]
  | .movEC => [0x59]
  | .movED => [0x5A]
  | .movEE => [0x5B]
  | .movEH => [0x5C]
  | .movEL => [0x5D]
  | .movEM => [0x5E]
  | .movEA => [0x5F]
  | .movHB => [0x60]
  | .movHC => [0x61]
  | .movHD => [0x62]
  | .movHE => [0x63]
  | .movHH => [0x64]
  | .movHL => [0x65]
  | .movHM => [0x66]
  | .movHA => [0x67]
  | .movLB => [0x68]
  | .movLC => [0x69]
  | .movLD => [0x6A]
  | .movLE => [0x6B]
  | .movLH => [0x6C]
  | .movLL => [0x6D]
  | .movLM => [0x6E]
  | .movLA => [0x6F]
  | .movMB => [0x70]
  | .movMC => [0x71]
  | .movMD => [0x72]
  | .movME => [0x73]
  | .movMH => [0x74]
  | .movML => [0x75]
  | .hlt => [0x76]
  | .movMA => [0x77]
  | .movAB => [0x78]
  | .movAC => [0x79]
  | .movAD => [0x7A]
  | .movAE => [0x7B]
  | .movAH => [0x7C]
  | .movAL => [0x7D]
  | .movAM => [0x7E]
  | .movAA => [0x7F]
  | .addB => [0x80]
  | .addC => [0x81]
  | .addD => [0x82]
  | .addE => [0x83]
  | .addH => [0x84]
  | .addL => [0x85]
  | .addM => [0x86]
  | .addA => [0x87]
  | .adcB => [0x88]
  | .adcC => [0x89]
  | .adcD => [0x8A]
  | .adcE => [0x8B]
  | .adcH => [0x8C]
  | .adcL => [0x8D]
  | .adcM => [0x8E]
  | .adcA => [0x8F]
  | .subB => [0x90]
  | .subC => [0x91]
  | .subD => [0x92]
  | .subE => [0x93]
  | .subH => [0x94]
  | .subL => [0x95]
  | .subM => [0x96]
  | .subA => [0x97]
  | .sbbB => [0x98]
  | .sbbC => [0x99]
  | .sbbD => [0x9A]
  | .sbbE => [0x9B]
  | .sbbH => [0x9C]
  | .sbbL => [0x9D]
  | .sbbM => [0x9E]
  | .sbbA => [0x9F]
  | .anaB => [0xA0]
  | .anaC => [0xA1]
  | .anaD => [0xA2]
  | .anaE => [0xA3]
  | .anaH => [0xA4]
  | .anaL => [0xA5]
  | .anaM => [0xA6]
  | .anaA => [0xA7]
  | .xraB => [0xA8]
  | .xraC => [0xA9]
  | .xraD => [0xAA]
  | .xraE => [0xAB]
  | .xraH => [0xAC]
  | .xraL => [0xAD]
  | .xraM => [0xAE]
  | .xraA => [0xAF]
  | .oraB => [0xB0]
  | .oraC => [0xB1]
  | .oraD => [0xB2]
  | .oraE => [0xB3]
  | .oraH => [0xB4]
  | .oraL => [0xB5]
  | .oraM => [0xB6]
  | .oraA => [0xB7]
  | .cmpB => [0xB8]
  | .cmpC => [0xB9]
  | .cmpD => [0xBA]
  | .cmpE => [0xBB]
  | .cmpH => [0xBC]
  | .cmpL => [0xBD]
  | .cmpM => [0xBE]
  | .cmpA => [0xBF]
  | .rnz => [0xC0]
  | .popB => [0xC1]
  | .jnz a16 => [0xC2, loByte a16, hiByte a16]
  | .jmp a16 => [0xC3, loByte a16, hiByte a16]
  | .cnz a16 => [0xC4, loByte a16, hiByte a16]
  | .pushB => [0xC5]
  | .adi d8 => [0xC6, d8]
  | .rst0 => [0xC7]
  | .rz => [0xC8]
  | .ret => [0xC9]
  | .jz a16 => [0xCA, loByte a16, hiByte a16]
  | .jmpCB a16 => [0xCB, loByte a16, hiByte a16]
  | .cz a16 => [0xCC, loByte a16, hiByte a16]
  | .call a16 => [0xCD, loByte a16, hiByte a16]
  | .aci d8 => [0xCE, d8]
  | .rst1 => [0xCF]
  | .rnc => [0xD0]
  | .popD => [0xD1]
  | .jnc a16 => [0xD2, loByte a16, hiByte a16]
  | .outPort d8 => [0xD3, d8]
  | .cnc a16 => [0xD4, loByte a16, hiByte a16]
  | .pushD => [0xD5]
  | .sui d8 => [0xD6, d8]
  | .rst2 => [0xD7]
  | .rc => [0xD8]
  | .retD9 => [0xD9]
  | .jc a16 => [0xDA, loByte a16, hiByte a16]
  | .inPort d8 => [0xDB, d8]
  | .cc a16 => [0xDC, loByte a16, hiByte a16]
  | .callDD a16 => [0xDD, loByte a16, hiByte a16]
  | .sbi d8 => [0xDE, d8]
  | .rst3 => [0xDF]
  | .rpo => [0xE0]
  | .popH => [0xE1]
  | .jpo a16 => [0xE2, loByte a16, hiByte a16]
  | .xthl => [0xE3]
  | .cpo a16 => [0xE4, loByte a16, hiByte a16]
  | .pushH => [0xE5]
  | .ani d8 => [0xE6, d8]
  | .rst4 => [0xE7]
  | .rpe => [0xE8]
  | .pchl => [0xE9]
  | .jpe a16 => [0xEA, loByte a16, hiByte a16]
  | .xchg => [0xEB]
  | .cpe a16 => [0xEC, loByte a16, hiByte a16]
  | .callED a16 => [0xED, loByte a16, hiByte a16]
  | .xri d8 => [0xEE, d8]
  | .rst5 => [0xEF]
  | .rp => [0xF0]
  | .popPsw => [0xF1]
  | .jp a16 => [0xF2, loByte a16, hiByte a16]
  | .di => [0xF3]
  | .cp a16 => [0xF4, loByte a16, hiByte a16]
  | .pushPsw => [0xF5]
  | .ori d8 => [0xF6, d8]
  | .rst6 => [0xF7]
  | .rm => [0xF8]
  | .sphl => [0xF9]
  | .jm a16 => [0xFA, loByte a16, hiByte a16]
  | .ei => [0xFB]
  | .cm a16 => [0xFC, loByte a16, hiByte a16]
  | .callFD a16 => [0xFD, loByte a16, hiByte a16]
  | .cpi d8 => [0xFE, d8]
  | .rst7 => [0xFF]

/-! ### The table's words -/

/-- The bytes of a word numbered as spec/opcode_table.json numbers bits: the first byte in bits 7..0, and every bit
from `nbits` up zero. Three bytes, the longest instruction (R90). -/
def tableBytes (nbits w : Nat) : List Byte :=
  let w := w % 2 ^ nbits
  [BitVec.ofNat 8 w, BitVec.ofNat 8 (w / 256), BitVec.ofNat 8 (w / 65536)]

/-- The instruction the decoder reads from a table word. -/
def decodeTableWord (nbits w : Nat) : Option Instr :=
  match decode (tableBytes nbits w) with
  | .ok (i, _) => some i
  | .error _ => none

end Sys2Proof
end

