-- ==== Sys2Proof/Config.lean ====
section
/-! DEFINITION. What an implementation fixes and the spec leaves open: the three open parameters of 00_scope.md R6
and 92_eei_decisions.md. Each is a free value: a constant without a body, so a proof holds whatever it is. -/

namespace Sys2Proof

/-- MEM_INIT (R6, R43, D17): what the cell at an address holds when neither `load` nor a write has set it. "It must
not treat it as zero." Free value, log entry 1. -/
opaque Config.memInit : Word → Byte

/-- PortIn (R6, R77, D21): the byte the host answers to a read of a port, given how many port reads came before.
Free value, log entry 3. -/
opaque Config.portIn : Byte → Nat → Byte

/-- Any byte at all; only its bits 5, 3 and 1 are used. Free value, log entry 2. -/
opaque Config.flagsFixedFree : Byte

/-- FLAGS_FIXED (R6, R30, D4): the fixed bits of the Flags byte, with `FLAGS_FIXED & 0xD5 = 0`, the one limit the
spec sets. -/
def Config.flagsFixed : Byte := Config.flagsFixedFree &&& 0x2A

end Sys2Proof
end

