-- ==== Sys2Proof/Machine/State.lean ====
section
/-! DEFINITION. The state of the machine (10_state.md R20) as plain data, the reasons a step can stop, and the state
after reset (R41). -/

namespace Sys2Proof.Machine

/-- The seven general registers (R21). -/
structure Regs where
  b : Byte
  c : Byte
  d : Byte
  e : Byte
  h : Byte
  l : Byte
  /-- The accumulator. -/
  a : Byte
  deriving DecidableEq, Repr

/-- The five flags (R29). The packed Flags byte is a view of them (R30, R31). -/
structure Flags where
  /-- Zero. -/
  z : Bool
  /-- Sign. -/
  s : Bool
  /-- Parity: true when the result had an even number of one bits. -/
  p : Bool
  /-- Carry. -/
  cy : Bool
  /-- Auxiliary-Carry. -/
  ac : Bool
  deriving DecidableEq, Repr

/-- One transaction of the core on its two buses (R5, R61, R77), with the byte it moved. -/
inductive BusEvent
  /-- `MemRead(addr)` returned `value`. -/
  | memRead (addr : Word) (value : Byte)
  /-- `MemWrite(addr, value)`. -/
  | memWrite (addr : Word) (value : Byte)
  /-- `PortIn(port)` returned `value`. -/
  | portIn (port : Byte) (value : Byte)
  /-- `PortOut(port, value)`. -/
  | portOut (port : Byte) (value : Byte)
  deriving DecidableEq, Repr

/-- Memory (R39, R60): the bytes that `load` or a write has set, by address, addresses strictly rising and below
65536 (`Memory.wf`). An unlisted address has not been written and reads as MEM_INIT (`Memory.read`; log entry 1). -/
abbrev Memory := List Host.Cell

/-- The state of the machine (R20). The last two fields are the model's own: the history of transactions (R66, R71,
R77) and the count the PortIn oracle is applied to (D21). -/
structure State where
  /-- B, C, D, E, H, L, A. -/
  regs : Regs
  /-- The stack pointer (R26). -/
  sp : Word
  /-- The program counter: between steps, the address of the next opcode byte (R27). -/
  pc : Word
  /-- Z, S, P, CY, AC (R29). -/
  flags : Flags
  /-- The latch W: the second operand byte of the last instruction that had one (R35). -/
  wLatch : Byte
  /-- The latch Z, written Z_ in the spec: the first operand byte of the last instruction that had one (R35). -/
  zLatch : Byte
  /-- The instruction register: the opcode fetched last (R36). -/
  ir : Byte
  /-- The interrupt-enable flag (R37). -/
  inte : Bool
  /-- The halted state (R38). -/
  halted : Bool
  /-- The 65536 cells of memory (R39). -/
  mem : Memory
  /-- Every bus transaction so far, oldest first (R66, R71); its port events are the I/O trace of R77. Log entry 4. -/
  bus : List BusEvent
  /-- How many port reads came before (D21). Log entry 3. -/
  portReads : Nat
  deriving DecidableEq, Repr

/-- Reasons the machine stops with a fault: none. "The core raises no synchronous exception" (60_exceptions.md R310),
"`step` never fails" (30_encoding.md R105), so the type has no constructor and nobody raises one. Log entry 12. -/
inductive Fault
  deriving DecidableEq, Repr

/-- Reasons an instruction is given no meaning. -/
inductive Refusal
  /-- The instruction of this mnemonic is not modelled yet. Raised by an arm of `exec` alone; no arm raises it, since
  every instruction has its meaning. Safe: the machine stops where the hardware goes on. -/
  | notModelled (mnemonic : String)
  deriving DecidableEq, Repr

/-- What executing an instruction, or a step, answers. -/
abbrev Result := Host.Outcome State Fault Refusal

/-- Seven registers of zero (R41). -/
def Regs.zero : Regs := { b := 0, c := 0, d := 0, e := 0, h := 0, l := 0, a := 0 }

/-- Five clear flags (R41). -/
def Flags.clear : Flags := { z := false, s := false, p := false, cy := false, ac := false }

/-- The machine after power-on and reset (R41, R341): every register, flag and latch zero, INTE and HALTED clear, no
byte of memory written, no transaction yet. -/
def State.reset : State :=
  { regs := Regs.zero, sp := 0, pc := 0, flags := Flags.clear, wLatch := 0, zLatch := 0, ir := 0
    inte := false, halted := false, mem := [], bus := [], portReads := 0 }

end Sys2Proof.Machine
end

