-- ==== Sys2Proof/Machine/Ops.lean ====
section
/-! DEFINITION. The named operations over memory, the bus, registers, pairs, the stack and the ports. This core takes
no exception (60_exceptions.md R310, R316), so there is no operation that takes one and none that returns from one;
RST is an ordinary call (43_branch.md R248) and uses `push16`. -/

namespace Sys2Proof.Machine

/-! ### Memory (10_state.md R39, 20_memory.md R61) -/

/-- The byte last written at an address, if one was. -/
def Memory.written : Memory → Nat → Option Byte
  | [], _ => none
  | (k, x) :: m, a => if a = k then some x else Memory.written m a

/-- `Mem[a]`: the byte written last, or MEM_INIT of the address if there was none (R71). Never fails (R61). -/
def Memory.read (m : Memory) (a : Word) : Byte :=
  (Memory.written m a.toNat).getD (Config.memInit a)

/-- Set the byte at an address, keeping addresses strictly rising. -/
def Memory.insert : Memory → Nat → Byte → Memory
  | [], a, v => [(a, v)]
  | (k, x) :: m, a, v =>
    if a < k then (a, v) :: (k, x) :: m
    else if a = k then (a, v) :: m
    else (k, x) :: Memory.insert m a v

/-- `Mem[a] <- v` (R61): exactly one cell changes. -/
def Memory.write (m : Memory) (a : Word) (v : Byte) : Memory := Memory.insert m a.toNat v

/-- Every address is at least `lo`, each above the one before it, all below 65536. -/
def Memory.wfFrom (lo : Nat) : Memory → Bool
  | [] => true
  | (k, _) :: m => decide (lo ≤ k) && decide (k < 65536) && Memory.wfFrom (k + 1) m

/-- The canonical form: addresses strictly rising and inside the address space (R60). -/
def Memory.wf (m : Memory) : Bool := Memory.wfFrom 0 m

/-! ### Updates of the state -/

/-- The state with transactions appended to the bus history. -/
def State.record (s : State) (events : List BusEvent) : State := { s with bus := s.bus ++ events }

/-- The state with another PC. -/
def State.setPc (s : State) (v : Word) : State := { s with pc := v }

/-- The state with another SP. -/
def State.setSp (s : State) (v : Word) : State := { s with sp := v }

/-- The state with other flags. -/
def State.setFlags (s : State) (f : Flags) : State := { s with flags := f }

/-- The state with other general registers. -/
def State.setRegs (s : State) (r : Regs) : State := { s with regs := r }

/-- The state with another interrupt-enable flag. -/
def State.setInte (s : State) (v : Bool) : State := { s with inte := v }

/-- The state with HALTED as given. -/
def State.setHalted (s : State) (v : Bool) : State := { s with halted := v }

/-- The state with another memory. -/
def State.setMem (s : State) (m : Memory) : State := { s with mem := m }

/-- The state with an opcode in IR (R36). -/
def State.setIr (s : State) (v : Byte) : State := { s with ir := v }

/-- The state with a byte in the latch Z_ (R35). -/
def State.setZLatch (s : State) (v : Byte) : State := { s with zLatch := v }

/-- The state with a byte in the latch W (R35). -/
def State.setWLatch (s : State) (v : Byte) : State := { s with wLatch := v }

/-! ### Registers and pairs (10_state.md R21, R24, R25) -/

/-- `r[c]`. -/
def Regs.get (r : Regs) : Reg8 → Byte
  | .b => r.b
  | .c => r.c
  | .d => r.d
  | .e => r.e
  | .h => r.h
  | .l => r.l
  | .a => r.a

/-- `r[c] <- v`. -/
def Regs.set (r : Regs) (n : Reg8) (v : Byte) : Regs :=
  match n with
  | .b => { r with b := v }
  | .c => { r with c := v }
  | .d => { r with d := v }
  | .e => { r with e := v }
  | .h => { r with h := v }
  | .l => { r with l := v }
  | .a => { r with a := v }

/-- The state with one register written. -/
def State.setReg (s : State) (n : Reg8) (v : Byte) : State := s.setRegs (s.regs.set n v)

/-- `PairRead` (R25): the first-named register is the high byte (R24). -/
def State.pair (s : State) : Pair → Word
  | .bc => wordOf s.regs.b s.regs.c
  | .de => wordOf s.regs.d s.regs.e
  | .hl => wordOf s.regs.h s.regs.l
  | .sp => s.sp

/-- `PairWrite` (R25). -/
def State.setPair (s : State) (p : Pair) (v : Word) : State :=
  match p with
  | .bc => s.setRegs { s.regs with b := hiByte v, c := loByte v }
  | .de => s.setRegs { s.regs with d := hiByte v, e := loByte v }
  | .hl => s.setRegs { s.regs with h := hiByte v, l := loByte v }
  | .sp => s.setSp v

/-! ### Bus transactions (00_scope.md R10, R11; 20_memory.md R61, R77) -/

/-- `MemRead(a, 1)`: the byte, and the state in which the read has happened. -/
def memRead (a : Word) (s : State) : Byte × State :=
  (s.mem.read a, s.record [.memRead a (s.mem.read a)])

/-- `MemWrite(a, 1, v)`. -/
def memWrite (a : Word) (v : Byte) (s : State) : State :=
  (s.setMem (s.mem.write a v)).record [.memWrite a v]

/-- `MemRead(a, 2)` (R10): the low byte at `a`, then the high byte at `a + 1`. -/
def memRead16 (a : Word) (s : State) : Word × State :=
  let (lo, s) := memRead a s
  let (hi, s) := memRead (a + 1) s
  (wordOf hi lo, s)

/-- `MemWrite(a, 2, v)` (R10): the low byte at `a`, then the high byte at `a + 1`. -/
def memWrite16 (a : Word) (v : Word) (s : State) : State :=
  memWrite (a + 1) (hiByte v) (memWrite a (loByte v) s)

/-- `Push16(v)` (R80): the high byte at SP - 1, then the low byte at SP - 2. -/
def push16 (v : Word) (s : State) : State :=
  let sp := s.sp
  (memWrite (sp - 2) (loByte v) (memWrite (sp - 1) (hiByte v) s)).setSp (sp - 2)

/-- `Pop16()` (R81). -/
def pop16 (s : State) : Word × State :=
  let sp := s.sp
  let (v, s) := memRead16 sp s
  (v, s.setSp (sp + 2))

/-- `PortIn(p)` (R77): the oracle's byte for this port at this moment. -/
def portIn (p : Byte) (s : State) : Byte × State :=
  let v := Config.portIn p s.portReads
  (v, { s.record [.portIn p v] with portReads := s.portReads + 1 })

/-- `PortOut(p, v)` (R77): an event the host observes; no core state changes. -/
def portOut (p v : Byte) (s : State) : State := s.record [.portOut p v]

end Sys2Proof.Machine
end

