-- ==== Sys2Proof/Machine/Operands.lean ====
section
/-! DEFINITION. The 8-bit operand forms (10_state.md R22, R23; 40_data_transfer.md R120): a register, or M, the byte
at address HL. The other addressing modes are arguments of the operations that use them: a pair (`State.pair`), an
immediate, a direct address, the stack (`push16`, `pop16`). -/

namespace Sys2Proof.Machine

/-- The value `Reg8Read(c)` returns (R23). -/
def operandValue (o : Operand8) (s : State) : Byte :=
  match o with
  | .reg r => s.regs.get r
  | .mem => s.mem.read (s.pair .hl)

/-- The bus transactions of `Reg8Read(c)`: one memory read for M, none for a register (R66). -/
def operandBus (o : Operand8) (s : State) : List BusEvent :=
  match o with
  | .reg _ => []
  | .mem => [.memRead (s.pair .hl) (s.mem.read (s.pair .hl))]

/-- `Reg8Read(c)` (R23). -/
def readOperand (o : Operand8) (s : State) : Byte × State :=
  match o with
  | .reg r => (s.regs.get r, s)
  | .mem => memRead (s.pair .hl) s

/-- `Reg8Write(c, v)` (R23): the address HL is formed at the moment of the call. -/
def writeOperand (o : Operand8) (v : Byte) (s : State) : State :=
  match o with
  | .reg r => s.setReg r v
  | .mem => memWrite (s.pair .hl) v s

end Sys2Proof.Machine
end

