-- ==== Sys2Proof/Machine/Flags.lean ====
section
/-! DEFINITION. The ALU/FlagUnit (41_arithmetic.md R150): pure functions from operands to a result and flags, the
Flags byte, and the conditions. -/

namespace Sys2Proof.Machine

/-! ### Result flags (00_scope.md R13) -/

/-- The number of one bits of a byte. -/
def onesCount (v : Byte) : Nat :=
  (v.getLsbD 0).toNat + (v.getLsbD 1).toNat + (v.getLsbD 2).toNat + (v.getLsbD 3).toNat +
  (v.getLsbD 4).toNat + (v.getLsbD 5).toNat + (v.getLsbD 6).toNat + (v.getLsbD 7).toNat

/-- `parity(v)`: the number of one bits is even. -/
def parity (v : Byte) : Bool := onesCount v % 2 == 0

/-- `SetZSP(v)`: Z, S and P from a result, CY and AC kept. -/
def Flags.setZSP (f : Flags) (v : Byte) : Flags :=
  { f with z := v == 0, s := v.getLsbD 7, p := parity v }

/-! ### The Flags byte (10_state.md R30, R31) -/

/-- One flag at a bit position of a byte. -/
def flagBit (f : Bool) (position : Nat) : Byte := (if f then 1 else 0) <<< position

/-- `FlagsByte()`: S Z - AC - P - CY, with the fixed bits from FLAGS_FIXED. -/
def Flags.byte (f : Flags) : Byte :=
  flagBit f.s 7 ||| flagBit f.z 6 ||| flagBit f.ac 4 ||| flagBit f.p 2 ||| flagBit f.cy 0 ||| Config.flagsFixed

/-- `SetFlagsFromByte(v)`: bits 5, 3 and 1 are ignored. -/
def Flags.ofByte (v : Byte) : Flags :=
  { s := v.getLsbD 7, z := v.getLsbD 6, ac := v.getLsbD 4, p := v.getLsbD 2, cy := v.getLsbD 0 }

/-- PSW: A in the high byte, Flags in the low byte (R32). -/
def State.psw (s : State) : Word := wordOf s.regs.a s.flags.byte

/-! ### Eight-bit arithmetic (41_arithmetic.md R151, R152) -/

/-- What an ALU function returns: the result byte, CY and AC. -/
structure AluOut where
  res : Byte
  cy : Bool
  ac : Bool
  deriving DecidableEq, Repr

/-- `Add8(a, b, cin)` (R151): the exact sum, and the carries out of bits 7 and 3. -/
def add8 (a b : Byte) (cin : Bool) : AluOut :=
  let sum := a.toNat + b.toNat + cin.toNat
  { res := BitVec.ofNat 8 sum
    cy := decide (sum > 255)
    ac := decide (a.toNat % 16 + b.toNat % 16 + cin.toNat > 15) }

/-- `Sub8(a, b, bin)` (R152): the exact difference, and the borrows out of bits 7 and 3 (C10: AC is the borrow). -/
def sub8 (a b : Byte) (bin : Bool) : AluOut :=
  let diff : Int := (a.toNat : Int) - b.toNat - bin.toNat
  { res := BitVec.ofInt 8 diff
    cy := decide (diff < 0)
    ac := decide ((a.toNat % 16 : Int) - (b.toNat % 16 : Int) - bin.toNat < 0) }

/-- A logical result: CY and AC are cleared (42_logic_rotate.md R206). -/
def logic8 (res : Byte) : AluOut := { res := res, cy := false, ac := false }

/-- The eight operations ooo on A, an operand and CY (30_encoding.md R92). ADD, SUB and CMP do not take CY in. -/
def aluCompute (op : AluOp) (a v : Byte) (cy : Bool) : AluOut :=
  match op with
  | .add => add8 a v false
  | .adc => add8 a v cy
  | .sub => sub8 a v false
  | .sbb => sub8 a v cy
  | .ana => logic8 (a &&& v)
  | .xra => logic8 (a ^^^ v)
  | .ora => logic8 (a ||| v)
  | .cmp => sub8 a v false

/-- All five flags from an ALU result. -/
def Flags.ofAlu (r : AluOut) : Flags :=
  { z := r.res == 0, s := r.res.getLsbD 7, p := parity r.res, cy := r.cy, ac := r.ac }

/-- Do operation `op` on A and `v`: all five flags, and A unless the operation is CMP, which "discards the result"
(41_arithmetic.md R165). -/
def aluOnA (op : AluOp) (v : Byte) (s : State) : State :=
  let r := aluCompute op s.regs.a v s.flags.cy
  let s := s.setFlags (Flags.ofAlu r)
  match op with
  | .cmp => s
  | _ => s.setReg .a r.res

/-! ### Increment and decrement (R168, R170): CY is kept -/

/-- The flags after INR of `v`. -/
def Flags.afterInr (f : Flags) (v : Byte) : Flags :=
  { f.setZSP (v + 1) with ac := v &&& 0x0F == 0x0F }

/-- The flags after DCR of `v`: AC is the borrow out of bit 3. -/
def Flags.afterDcr (f : Flags) (v : Byte) : Flags :=
  { f.setZSP (v - 1) with ac := v &&& 0x0F == 0x00 }

/-! ### DAD, DAA and the rotates -/

/-- The sum of DAD and the carry out of bit 15 (R174). -/
def dadCompute (hl v : Word) : Word × Bool :=
  let sum := hl.toNat + v.toNat
  (BitVec.ofNat 16 sum, decide (sum > 65535))

/-- `DAA` (R175): both corrections on eight bits, the second on the value after the first (C11). -/
def daaCompute (a : Byte) (cy ac : Bool) : AluOut :=
  let low := decide ((a &&& 0x0F).toNat > 9) || ac
  let a := if low then a + 0x06 else a
  let high := decide ((a >>> 4).toNat > 9) || cy
  let a := if high then a + 0x60 else a
  { res := a, cy := if high then true else cy, ac := if low then true else ac }

/-- The byte A after a rotation, and the bit that left it, which becomes CY (42_logic_rotate.md R207). -/
def rotateLeft (a : Byte) (bitIn : Bool) : Byte × Bool :=
  ((a <<< 1) ||| (if bitIn then 0x01 else 0x00), a.getLsbD 7)

/-- The rotation to the right. -/
def rotateRight (a : Byte) (bitIn : Bool) : Byte × Bool :=
  ((a >>> 1) ||| (if bitIn then 0x80 else 0x00), a.getLsbD 0)

/-! ### Conditions (43_branch.md R220) -/

/-- `Cond(ccc)`. -/
def condHolds (ccc : Cond) (f : Flags) : Bool :=
  match ccc with
  | .nz => !f.z
  | .z => f.z
  | .nc => !f.cy
  | .c => f.cy
  | .po => !f.p
  | .pe => f.p
  | .p => !f.s
  | .m => f.s

end Sys2Proof.Machine
end

