-- ==== Sys2Proof/Machine/Arithmetic.lean ====
section
/-! DEFINITION. The arithmetic instructions (41_arithmetic.md R153 to R175). -/

namespace Sys2Proof.Machine

/-- An ALU operation on A and an operand (R153 to R166, R190 to R197): M is read once and never written. -/
def aluOperand (op : AluOp) (src : Operand8) (s : State) : Result :=
  let (v, t) := readOperand src s
  .next (aluOnA op v t)

/-- INR of either form (R168, R169). -/
def inrOperand (dst : Operand8) (s : State) : Result :=
  let (v, t) := readOperand dst s
  .next ((writeOperand dst (v + 1) t).setFlags (s.flags.afterInr v))

/-- DCR of either form (R170, R171). -/
def dcrOperand (dst : Operand8) (s : State) : Result :=
  let (v, t) := readOperand dst s
  .next ((writeOperand dst (v - 1) t).setFlags (s.flags.afterDcr v))

/-- DAD of a pair (R174): CY is written, not only set. -/
def dadPair (p : Pair) (s : State) : Result :=
  let (sum, carry) := dadCompute (s.pair .hl) (s.pair p)
  .next ((s.setPair .hl sum).setFlags { s.flags with cy := carry })

/-- INX B (R172, 0x03). -/
def execInxB (s : State) : Result := .next (s.setPair .bc (s.pair .bc + 1))

/-- INR B (R168, 0x04). -/
def execInrB (s : State) : Result := inrOperand (.reg .b) s

/-- DCR B (R170, 0x05). -/
def execDcrB (s : State) : Result := dcrOperand (.reg .b) s

/-- DAD B (R174, 0x09). -/
def execDadB (s : State) : Result := dadPair .bc s

/-- DCX B (R173, 0x0B). -/
def execDcxB (s : State) : Result := .next (s.setPair .bc (s.pair .bc - 1))

/-- INR C (R168, 0x0C). -/
def execInrC (s : State) : Result := inrOperand (.reg .c) s

/-- DCR C (R170, 0x0D). -/
def execDcrC (s : State) : Result := dcrOperand (.reg .c) s

/-- INX D (R172, 0x13). -/
def execInxD (s : State) : Result := .next (s.setPair .de (s.pair .de + 1))

/-- INR D (R168, 0x14). -/
def execInrD (s : State) : Result := inrOperand (.reg .d) s

/-- DCR D (R170, 0x15). -/
def execDcrD (s : State) : Result := dcrOperand (.reg .d) s

/-- DAD D (R174, 0x19). -/
def execDadD (s : State) : Result := dadPair .de s

/-- DCX D (R173, 0x1B). -/
def execDcxD (s : State) : Result := .next (s.setPair .de (s.pair .de - 1))

/-- INR E (R168, 0x1C). -/
def execInrE (s : State) : Result := inrOperand (.reg .e) s

/-- DCR E (R170, 0x1D). -/
def execDcrE (s : State) : Result := dcrOperand (.reg .e) s

/-- INX H (R172, 0x23). -/
def execInxH (s : State) : Result := .next (s.setPair .hl (s.pair .hl + 1))

/-- INR H (R168, 0x24). -/
def execInrH (s : State) : Result := inrOperand (.reg .h) s

/-- DCR H (R170, 0x25). -/
def execDcrH (s : State) : Result := dcrOperand (.reg .h) s

/-- DAA (R175, 0x27): CY and AC are only ever set. -/
def execDaa (s : State) : Result :=
  let r := daaCompute s.regs.a s.flags.cy s.flags.ac
  .next ((s.setFlags (Flags.ofAlu r)).setReg .a r.res)

/-- DAD H (R174, 0x29). -/
def execDadH (s : State) : Result := dadPair .hl s

/-- DCX H (R173, 0x2B). -/
def execDcxH (s : State) : Result := .next (s.setPair .hl (s.pair .hl - 1))

/-- INR L (R168, 0x2C). -/
def execInrL (s : State) : Result := inrOperand (.reg .l) s

/-- DCR L (R170, 0x2D). -/
def execDcrL (s : State) : Result := dcrOperand (.reg .l) s

/-- INX SP (R172, 0x33). -/
def execInxSp (s : State) : Result := .next (s.setPair .sp (s.pair .sp + 1))

/-- INR M (R169, 0x34). -/
def execInrM (s : State) : Result := inrOperand .mem s

/-- DCR M (R171, 0x35). -/
def execDcrM (s : State) : Result := dcrOperand .mem s

/-- DAD SP (R174, 0x39). -/
def execDadSp (s : State) : Result := dadPair .sp s

/-- DCX SP (R173, 0x3B). -/
def execDcxSp (s : State) : Result := .next (s.setPair .sp (s.pair .sp - 1))

/-- INR A (R168, 0x3C). -/
def execInrA (s : State) : Result := inrOperand (.reg .a) s

/-- DCR A (R170, 0x3D). -/
def execDcrA (s : State) : Result := dcrOperand (.reg .a) s

/-- ADD B (R153, 0x80). -/
def execAddB (s : State) : Result := aluOperand .add (.reg .b) s

/-- ADD C (R153, 0x81). -/
def execAddC (s : State) : Result := aluOperand .add (.reg .c) s

/-- ADD D (R153, 0x82). -/
def execAddD (s : State) : Result := aluOperand .add (.reg .d) s

/-- ADD E (R153, 0x83). -/
def execAddE (s : State) : Result := aluOperand .add (.reg .e) s

/-- ADD H (R153, 0x84). -/
def execAddH (s : State) : Result := aluOperand .add (.reg .h) s

/-- ADD L (R153, 0x85). -/
def execAddL (s : State) : Result := aluOperand .add (.reg .l) s

/-- ADD M (R154, 0x86). -/
def execAddM (s : State) : Result := aluOperand .add .mem s

/-- ADD A (R153, 0x87). -/
def execAddA (s : State) : Result := aluOperand .add (.reg .a) s

/-- ADC B (R156, 0x88). -/
def execAdcB (s : State) : Result := aluOperand .adc (.reg .b) s

/-- ADC C (R156, 0x89). -/
def execAdcC (s : State) : Result := aluOperand .adc (.reg .c) s

/-- ADC D (R156, 0x8A). -/
def execAdcD (s : State) : Result := aluOperand .adc (.reg .d) s

/-- ADC E (R156, 0x8B). -/
def execAdcE (s : State) : Result := aluOperand .adc (.reg .e) s

/-- ADC H (R156, 0x8C). -/
def execAdcH (s : State) : Result := aluOperand .adc (.reg .h) s

/-- ADC L (R156, 0x8D). -/
def execAdcL (s : State) : Result := aluOperand .adc (.reg .l) s

/-- ADC M (R157, 0x8E). -/
def execAdcM (s : State) : Result := aluOperand .adc .mem s

/-- ADC A (R156, 0x8F). -/
def execAdcA (s : State) : Result := aluOperand .adc (.reg .a) s

/-- SUB B (R159, 0x90). -/
def execSubB (s : State) : Result := aluOperand .sub (.reg .b) s

/-- SUB C (R159, 0x91). -/
def execSubC (s : State) : Result := aluOperand .sub (.reg .c) s

/-- SUB D (R159, 0x92). -/
def execSubD (s : State) : Result := aluOperand .sub (.reg .d) s

/-- SUB E (R159, 0x93). -/
def execSubE (s : State) : Result := aluOperand .sub (.reg .e) s

/-- SUB H (R159, 0x94). -/
def execSubH (s : State) : Result := aluOperand .sub (.reg .h) s

/-- SUB L (R159, 0x95). -/
def execSubL (s : State) : Result := aluOperand .sub (.reg .l) s

/-- SUB M (R160, 0x96). -/
def execSubM (s : State) : Result := aluOperand .sub .mem s

/-- SUB A (R159, 0x97). -/
def execSubA (s : State) : Result := aluOperand .sub (.reg .a) s

/-- SBB B (R162, 0x98). -/
def execSbbB (s : State) : Result := aluOperand .sbb (.reg .b) s

/-- SBB C (R162, 0x99). -/
def execSbbC (s : State) : Result := aluOperand .sbb (.reg .c) s

/-- SBB D (R162, 0x9A). -/
def execSbbD (s : State) : Result := aluOperand .sbb (.reg .d) s

/-- SBB E (R162, 0x9B). -/
def execSbbE (s : State) : Result := aluOperand .sbb (.reg .e) s

/-- SBB H (R162, 0x9C). -/
def execSbbH (s : State) : Result := aluOperand .sbb (.reg .h) s

/-- SBB L (R162, 0x9D). -/
def execSbbL (s : State) : Result := aluOperand .sbb (.reg .l) s

/-- SBB M (R163, 0x9E). -/
def execSbbM (s : State) : Result := aluOperand .sbb .mem s

/-- SBB A (R162, 0x9F). -/
def execSbbA (s : State) : Result := aluOperand .sbb (.reg .a) s

/-- CMP B (R165, 0xB8). -/
def execCmpB (s : State) : Result := aluOperand .cmp (.reg .b) s

/-- CMP C (R165, 0xB9). -/
def execCmpC (s : State) : Result := aluOperand .cmp (.reg .c) s

/-- CMP D (R165, 0xBA). -/
def execCmpD (s : State) : Result := aluOperand .cmp (.reg .d) s

/-- CMP E (R165, 0xBB). -/
def execCmpE (s : State) : Result := aluOperand .cmp (.reg .e) s

/-- CMP H (R165, 0xBC). -/
def execCmpH (s : State) : Result := aluOperand .cmp (.reg .h) s

/-- CMP L (R165, 0xBD). -/
def execCmpL (s : State) : Result := aluOperand .cmp (.reg .l) s

/-- CMP M (R166, 0xBE). -/
def execCmpM (s : State) : Result := aluOperand .cmp .mem s

/-- CMP A (R165, 0xBF). -/
def execCmpA (s : State) : Result := aluOperand .cmp (.reg .a) s

/-- ADI d8 (R155, 0xC6). -/
def execAdi (d8 : Byte) (s : State) : Result := .next (aluOnA .add d8 s)

/-- ACI d8 (R158, 0xCE). -/
def execAci (d8 : Byte) (s : State) : Result := .next (aluOnA .adc d8 s)

/-- SUI d8 (R161, 0xD6). -/
def execSui (d8 : Byte) (s : State) : Result := .next (aluOnA .sub d8 s)

/-- SBI d8 (R164, 0xDE). -/
def execSbi (d8 : Byte) (s : State) : Result := .next (aluOnA .sbb d8 s)

/-- CPI d8 (R167, 0xFE). -/
def execCpi (d8 : Byte) (s : State) : Result := .next (aluOnA .cmp d8 s)

end Sys2Proof.Machine
end

