-- ==== Sys2Proof/Machine/Branch.lean ====
section
/-! DEFINITION. The branch instructions (43_branch.md R221 to R252). On entry PC is the address of the next sequential instruction. -/

namespace Sys2Proof.Machine

/-- A call (R230): push the return address, then jump. -/
def callTo (target : Word) (s : State) : Result := .next ((push16 s.pc s).setPc target)

/-- A return (R239). -/
def returnFromStack (s : State) : Result :=
  let (v, t) := pop16 s
  .next (t.setPc v)

/-- A conditional jump (R222 to R229). -/
def jumpIf (ccc : Cond) (a16 : Word) (s : State) : Result :=
  if condHolds ccc s.flags then .next (s.setPc a16) else .next s

/-- A conditional call (R231 to R238): not taken, it makes no transaction. -/
def callIf (ccc : Cond) (a16 : Word) (s : State) : Result :=
  if condHolds ccc s.flags then callTo a16 s else .next s

/-- A conditional return (R240 to R247): not taken, it makes no transaction. -/
def returnIf (ccc : Cond) (s : State) : Result :=
  if condHolds ccc s.flags then returnFromStack s else .next s

/-- RNZ (R240, 0xC0). -/
def execRnz (s : State) : Result := returnIf .nz s

/-- JNZ a16 (R222, 0xC2). -/
def execJnz (a16 : Word) (s : State) : Result := jumpIf .nz a16 s

/-- JMP a16 (R221, 0xC3). -/
def execJmp (a16 : Word) (s : State) : Result := .next (s.setPc a16)

/-- CNZ a16 (R231, 0xC4). -/
def execCnz (a16 : Word) (s : State) : Result := callIf .nz a16 s

/-- RST 0 (R248, 0xC7). -/
def execRst0 (s : State) : Result := callTo 0x0000 s

/-- RZ (R241, 0xC8). -/
def execRz (s : State) : Result := returnIf .z s

/-- RET (R239, 0xC9). -/
def execRet (s : State) : Result := returnFromStack s

/-- JZ a16 (R223, 0xCA). -/
def execJz (a16 : Word) (s : State) : Result := jumpIf .z a16 s

/-- JMP a16 (R250, 0xCB): behaves exactly as JMP. -/
def execJmpCB (a16 : Word) (s : State) : Result := .next (s.setPc a16)

/-- CZ a16 (R232, 0xCC). -/
def execCz (a16 : Word) (s : State) : Result := callIf .z a16 s

/-- CALL a16 (R230, 0xCD). -/
def execCall (a16 : Word) (s : State) : Result := callTo a16 s

/-- RST 1 (R248, 0xCF). -/
def execRst1 (s : State) : Result := callTo 0x0008 s

/-- RNC (R242, 0xD0). -/
def execRnc (s : State) : Result := returnIf .nc s

/-- JNC a16 (R224, 0xD2). -/
def execJnc (a16 : Word) (s : State) : Result := jumpIf .nc a16 s

/-- CNC a16 (R233, 0xD4). -/
def execCnc (a16 : Word) (s : State) : Result := callIf .nc a16 s

/-- RST 2 (R248, 0xD7). -/
def execRst2 (s : State) : Result := callTo 0x0010 s

/-- RC (R243, 0xD8). -/
def execRc (s : State) : Result := returnIf .c s

/-- RET (R251, 0xD9): behaves exactly as RET. -/
def execRetD9 (s : State) : Result := returnFromStack s

/-- JC a16 (R225, 0xDA). -/
def execJc (a16 : Word) (s : State) : Result := jumpIf .c a16 s

/-- CC a16 (R234, 0xDC). -/
def execCc (a16 : Word) (s : State) : Result := callIf .c a16 s

/-- CALL a16 (R252, 0xDD): behaves exactly as CALL. -/
def execCallDD (a16 : Word) (s : State) : Result := callTo a16 s

/-- RST 3 (R248, 0xDF). -/
def execRst3 (s : State) : Result := callTo 0x0018 s

/-- RPO (R244, 0xE0). -/
def execRpo (s : State) : Result := returnIf .po s

/-- JPO a16 (R226, 0xE2). -/
def execJpo (a16 : Word) (s : State) : Result := jumpIf .po a16 s

/-- CPO a16 (R235, 0xE4). -/
def execCpo (a16 : Word) (s : State) : Result := callIf .po a16 s

/-- RST 4 (R248, 0xE7). -/
def execRst4 (s : State) : Result := callTo 0x0020 s

/-- RPE (R245, 0xE8). -/
def execRpe (s : State) : Result := returnIf .pe s

/-- PCHL (R249, 0xE9). -/
def execPchl (s : State) : Result := .next (s.setPc (s.pair .hl))

/-- JPE a16 (R227, 0xEA). -/
def execJpe (a16 : Word) (s : State) : Result := jumpIf .pe a16 s

/-- CPE a16 (R236, 0xEC). -/
def execCpe (a16 : Word) (s : State) : Result := callIf .pe a16 s

/-- CALL a16 (R252, 0xED): behaves exactly as CALL. -/
def execCallED (a16 : Word) (s : State) : Result := callTo a16 s

/-- RST 5 (R248, 0xEF). -/
def execRst5 (s : State) : Result := callTo 0x0028 s

/-- RP (R246, 0xF0). -/
def execRp (s : State) : Result := returnIf .p s

/-- JP a16 (R228, 0xF2). -/
def execJp (a16 : Word) (s : State) : Result := jumpIf .p a16 s

/-- CP a16 (R237, 0xF4). -/
def execCp (a16 : Word) (s : State) : Result := callIf .p a16 s

/-- RST 6 (R248, 0xF7). -/
def execRst6 (s : State) : Result := callTo 0x0030 s

/-- RM (R247, 0xF8). -/
def execRm (s : State) : Result := returnIf .m s

/-- JM a16 (R229, 0xFA). -/
def execJm (a16 : Word) (s : State) : Result := jumpIf .m a16 s

/-- CM a16 (R238, 0xFC). -/
def execCm (a16 : Word) (s : State) : Result := callIf .m a16 s

/-- CALL a16 (R252, 0xFD): behaves exactly as CALL. -/
def execCallFD (a16 : Word) (s : State) : Result := callTo a16 s

/-- RST 7 (R248, 0xFF). -/
def execRst7 (s : State) : Result := callTo 0x0038 s

end Sys2Proof.Machine
end

