-- ==== Sys2Proof/Machine/Control.lean ====
section
/-! DEFINITION. The control and input/output instructions (45_control_io.md R290 to R298). -/

namespace Sys2Proof.Machine

/-- NOP (R291, 0x00). -/
def execNop (s : State) : Result := .next s

/-- NOP (R292, 0x08): behaves exactly as NOP. -/
def execNop08 (s : State) : Result := .next s

/-- NOP (R292, 0x10): behaves exactly as NOP. -/
def execNop10 (s : State) : Result := .next s

/-- NOP (R292, 0x18): behaves exactly as NOP. -/
def execNop18 (s : State) : Result := .next s

/-- RIM (R293, 0x20): a placeholder, A is not written. -/
def execRim (s : State) : Result := .next s

/-- NOP (R292, 0x28): behaves exactly as NOP. -/
def execNop28 (s : State) : Result := .next s

/-- SIM (R294, 0x30): a placeholder, A is not read. -/
def execSim (s : State) : Result := .next s

/-- NOP (R292, 0x38): behaves exactly as NOP. -/
def execNop38 (s : State) : Result := .next s

/-- HLT (R290, 0x76): PC stays one past it, and only reset leaves the halted state. -/
def execHlt (s : State) : Result := .next (s.setHalted true)

/-- OUT d8 (R298, 0xD3): deliver A to the port. -/
def execOutPort (d8 : Byte) (s : State) : Result := .next (portOut d8 s.regs.a s)

/-- IN d8 (R297, 0xDB): A gets the byte the host answers. -/
def execInPort (d8 : Byte) (s : State) : Result :=
  let (v, t) := portIn d8 s
  .next (t.setReg .a v)

/-- DI (R296, 0xF3). -/
def execDi (s : State) : Result := .next (s.setInte false)

/-- EI (R295, 0xFB). -/
def execEi (s : State) : Result := .next (s.setInte true)

end Sys2Proof.Machine
end

