-- ==== Sys2Proof/Machine/DataTransfer.lean ====
section
/-! DEFINITION. The data transfer instructions (40_data_transfer.md R121 to R135): no flag is written. -/

namespace Sys2Proof.Machine

/-- MOV of any form (R121 to R123): the source is read before the destination is written. -/
def movOperand (dst src : Operand8) (s : State) : Result :=
  let (v, t) := readOperand src s
  .next (writeOperand dst v t)

/-- MVI of either form (R124, R125). -/
def mviOperand (dst : Operand8) (d8 : Byte) (s : State) : Result := .next (writeOperand dst d8 s)

/-- Store A at an address (R127, R128, R133). -/
def storeA (addr : Word) (s : State) : Result := .next (memWrite addr s.regs.a s)

/-- Load A from an address (R129, R130, R134). -/
def loadA (addr : Word) (s : State) : Result :=
  let (v, t) := memRead addr s
  .next (t.setReg .a v)

/-- LXI B,d16 (R126, 0x01). -/
def execLxiB (d16 : Word) (s : State) : Result := .next (s.setPair .bc d16)

/-- STAX B (R127, 0x02). -/
def execStaxB (s : State) : Result := storeA (s.pair .bc) s

/-- MVI B,d8 (R124, 0x06). -/
def execMviB (d8 : Byte) (s : State) : Result := mviOperand (.reg .b) d8 s

/-- LDAX B (R129, 0x0A). -/
def execLdaxB (s : State) : Result := loadA (s.pair .bc) s

/-- MVI C,d8 (R124, 0x0E). -/
def execMviC (d8 : Byte) (s : State) : Result := mviOperand (.reg .c) d8 s

/-- LXI D,d16 (R126, 0x11). -/
def execLxiD (d16 : Word) (s : State) : Result := .next (s.setPair .de d16)

/-- STAX D (R128, 0x12). -/
def execStaxD (s : State) : Result := storeA (s.pair .de) s

/-- MVI D,d8 (R124, 0x16). -/
def execMviD (d8 : Byte) (s : State) : Result := mviOperand (.reg .d) d8 s

/-- LDAX D (R130, 0x1A). -/
def execLdaxD (s : State) : Result := loadA (s.pair .de) s

/-- MVI E,d8 (R124, 0x1E). -/
def execMviE (d8 : Byte) (s : State) : Result := mviOperand (.reg .e) d8 s

/-- LXI H,d16 (R126, 0x21). -/
def execLxiH (d16 : Word) (s : State) : Result := .next (s.setPair .hl d16)

/-- SHLD a16 (R131, 0x22). -/
def execShld (a16 : Word) (s : State) : Result := .next (memWrite16 a16 (s.pair .hl) s)

/-- MVI H,d8 (R124, 0x26). -/
def execMviH (d8 : Byte) (s : State) : Result := mviOperand (.reg .h) d8 s

/-- LHLD a16 (R132, 0x2A). -/
def execLhld (a16 : Word) (s : State) : Result :=
  let (v, t) := memRead16 a16 s
  .next (t.setPair .hl v)

/-- MVI L,d8 (R124, 0x2E). -/
def execMviL (d8 : Byte) (s : State) : Result := mviOperand (.reg .l) d8 s

/-- LXI SP,d16 (R126, 0x31). -/
def execLxiSp (d16 : Word) (s : State) : Result := .next (s.setPair .sp d16)

/-- STA a16 (R133, 0x32). -/
def execSta (a16 : Word) (s : State) : Result := storeA a16 s

/-- MVI M,d8 (R125, 0x36). -/
def execMviM (d8 : Byte) (s : State) : Result := mviOperand .mem d8 s

/-- LDA a16 (R134, 0x3A). -/
def execLda (a16 : Word) (s : State) : Result := loadA a16 s

/-- MVI A,d8 (R124, 0x3E). -/
def execMviA (d8 : Byte) (s : State) : Result := mviOperand (.reg .a) d8 s

/-- MOV B,B (R121, 0x40). -/
def execMovBB (s : State) : Result := movOperand (.reg .b) (.reg .b) s

/-- MOV B,C (R121, 0x41). -/
def execMovBC (s : State) : Result := movOperand (.reg .b) (.reg .c) s

/-- MOV B,D (R121, 0x42). -/
def execMovBD (s : State) : Result := movOperand (.reg .b) (.reg .d) s

/-- MOV B,E (R121, 0x43). -/
def execMovBE (s : State) : Result := movOperand (.reg .b) (.reg .e) s

/-- MOV B,H (R121, 0x44). -/
def execMovBH (s : State) : Result := movOperand (.reg .b) (.reg .h) s

/-- MOV B,L (R121, 0x45). -/
def execMovBL (s : State) : Result := movOperand (.reg .b) (.reg .l) s

/-- MOV B,M (R122, 0x46). -/
def execMovBM (s : State) : Result := movOperand (.reg .b) .mem s

/-- MOV B,A (R121, 0x47). -/
def execMovBA (s : State) : Result := movOperand (.reg .b) (.reg .a) s

/-- MOV C,B (R121, 0x48). -/
def execMovCB (s : State) : Result := movOperand (.reg .c) (.reg .b) s

/-- MOV C,C (R121, 0x49). -/
def execMovCC (s : State) : Result := movOperand (.reg .c) (.reg .c) s

/-- MOV C,D (R121, 0x4A). -/
def execMovCD (s : State) : Result := movOperand (.reg .c) (.reg .d) s

/-- MOV C,E (R121, 0x4B). -/
def execMovCE (s : State) : Result := movOperand (.reg .c) (.reg .e) s

/-- MOV C,H (R121, 0x4C). -/
def execMovCH (s : State) : Result := movOperand (.reg .c) (.reg .h) s

/-- MOV C,L (R121, 0x4D). -/
def execMovCL (s : State) : Result := movOperand (.reg .c) (.reg .l) s

/-- MOV C,M (R122, 0x4E). -/
def execMovCM (s : State) : Result := movOperand (.reg .c) .mem s

/-- MOV C,A (R121, 0x4F). -/
def execMovCA (s : State) : Result := movOperand (.reg .c) (.reg .a) s

/-- MOV D,B (R121, 0x50). -/
def execMovDB (s : State) : Result := movOperand (.reg .d) (.reg .b) s

/-- MOV D,C (R121, 0x51). -/
def execMovDC (s : State) : Result := movOperand (.reg .d) (.reg .c) s

/-- MOV D,D (R121, 0x52). -/
def execMovDD (s : State) : Result := movOperand (.reg .d) (.reg .d) s

/-- MOV D,E (R121, 0x53). -/
def execMovDE (s : State) : Result := movOperand (.reg .d) (.reg .e) s

/-- MOV D,H (R121, 0x54). -/
def execMovDH (s : State) : Result := movOperand (.reg .d) (.reg .h) s

/-- MOV D,L (R121, 0x55). -/
def execMovDL (s : State) : Result := movOperand (.reg .d) (.reg .l) s

/-- MOV D,M (R122, 0x56). -/
def execMovDM (s : State) : Result := movOperand (.reg .d) .mem s

/-- MOV D,A (R121, 0x57). -/
def execMovDA (s : State) : Result := movOperand (.reg .d) (.reg .a) s

/-- MOV E,B (R121, 0x58). -/
def execMovEB (s : State) : Result := movOperand (.reg .e) (.reg .b) s

/-- MOV E,C (R121, 0x59). -/
def execMovEC (s : State) : Result := movOperand (.reg .e) (.reg .c) s

/-- MOV E,D (R121, 0x5A). -/
def execMovED (s : State) : Result := movOperand (.reg .e) (.reg .d) s

/-- MOV E,E (R121, 0x5B). -/
def execMovEE (s : State) : Result := movOperand (.reg .e) (.reg .e) s

/-- MOV E,H (R121, 0x5C). -/
def execMovEH (s : State) : Result := movOperand (.reg .e) (.reg .h) s

/-- MOV E,L (R121, 0x5D). -/
def execMovEL (s : State) : Result := movOperand (.reg .e) (.reg .l) s

/-- MOV E,M (R122, 0x5E). -/
def execMovEM (s : State) : Result := movOperand (.reg .e) .mem s

/-- MOV E,A (R121, 0x5F). -/
def execMovEA (s : State) : Result := movOperand (.reg .e) (.reg .a) s

/-- MOV H,B (R121, 0x60). -/
def execMovHB (s : State) : Result := movOperand (.reg .h) (.reg .b) s

/-- MOV H,C (R121, 0x61). -/
def execMovHC (s : State) : Result := movOperand (.reg .h) (.reg .c) s

/-- MOV H,D (R121, 0x62). -/
def execMovHD (s : State) : Result := movOperand (.reg .h) (.reg .d) s

/-- MOV H,E (R121, 0x63). -/
def execMovHE (s : State) : Result := movOperand (.reg .h) (.reg .e) s

/-- MOV H,H (R121, 0x64). -/
def execMovHH (s : State) : Result := movOperand (.reg .h) (.reg .h) s

/-- MOV H,L (R121, 0x65). -/
def execMovHL (s : State) : Result := movOperand (.reg .h) (.reg .l) s

/-- MOV H,M (R122, 0x66). -/
def execMovHM (s : State) : Result := movOperand (.reg .h) .mem s

/-- MOV H,A (R121, 0x67). -/
def execMovHA (s : State) : Result := movOperand (.reg .h) (.reg .a) s

/-- MOV L,B (R121, 0x68). -/
def execMovLB (s : State) : Result := movOperand (.reg .l) (.reg .b) s

/-- MOV L,C (R121, 0x69). -/
def execMovLC (s : State) : Result := movOperand (.reg .l) (.reg .c) s

/-- MOV L,D (R121, 0x6A). -/
def execMovLD (s : State) : Result := movOperand (.reg .l) (.reg .d) s

/-- MOV L,E (R121, 0x6B). -/
def execMovLE (s : State) : Result := movOperand (.reg .l) (.reg .e) s

/-- MOV L,H (R121, 0x6C). -/
def execMovLH (s : State) : Result := movOperand (.reg .l) (.reg .h) s

/-- MOV L,L (R121, 0x6D). -/
def execMovLL (s : State) : Result := movOperand (.reg .l) (.reg .l) s

/-- MOV L,M (R122, 0x6E). -/
def execMovLM (s : State) : Result := movOperand (.reg .l) .mem s

/-- MOV L,A (R121, 0x6F). -/
def execMovLA (s : State) : Result := movOperand (.reg .l) (.reg .a) s

/-- MOV M,B (R123, 0x70). -/
def execMovMB (s : State) : Result := movOperand .mem (.reg .b) s

/-- MOV M,C (R123, 0x71). -/
def execMovMC (s : State) : Result := movOperand .mem (.reg .c) s

/-- MOV M,D (R123, 0x72). -/
def execMovMD (s : State) : Result := movOperand .mem (.reg .d) s

/-- MOV M,E (R123, 0x73). -/
def execMovME (s : State) : Result := movOperand .mem (.reg .e) s

/-- MOV M,H (R123, 0x74). -/
def execMovMH (s : State) : Result := movOperand .mem (.reg .h) s

/-- MOV M,L (R123, 0x75). -/
def execMovML (s : State) : Result := movOperand .mem (.reg .l) s

/-- MOV M,A (R123, 0x77). -/
def execMovMA (s : State) : Result := movOperand .mem (.reg .a) s

/-- MOV A,B (R121, 0x78). -/
def execMovAB (s : State) : Result := movOperand (.reg .a) (.reg .b) s

/-- MOV A,C (R121, 0x79). -/
def execMovAC (s : State) : Result := movOperand (.reg .a) (.reg .c) s

/-- MOV A,D (R121, 0x7A). -/
def execMovAD (s : State) : Result := movOperand (.reg .a) (.reg .d) s

/-- MOV A,E (R121, 0x7B). -/
def execMovAE (s : State) : Result := movOperand (.reg .a) (.reg .e) s

/-- MOV A,H (R121, 0x7C). -/
def execMovAH (s : State) : Result := movOperand (.reg .a) (.reg .h) s

/-- MOV A,L (R121, 0x7D). -/
def execMovAL (s : State) : Result := movOperand (.reg .a) (.reg .l) s

/-- MOV A,M (R122, 0x7E). -/
def execMovAM (s : State) : Result := movOperand (.reg .a) .mem s

/-- MOV A,A (R121, 0x7F). -/
def execMovAA (s : State) : Result := movOperand (.reg .a) (.reg .a) s

/-- XCHG (R135, 0xEB): swap HL and DE. -/
def execXchg (s : State) : Result :=
  let hl := s.pair .hl
  .next ((s.setPair .hl (s.pair .de)).setPair .de hl)

end Sys2Proof.Machine
end

