-- ==== Sys2Proof/Machine/Logic.lean ====
section
/-! DEFINITION. The logical, complement, carry and rotate instructions (42_logic_rotate.md R190 to R205). -/

namespace Sys2Proof.Machine

/-- Store a rotated A, and the bit that left it in CY (R207). -/
def rotateA (r : Byte × Bool) (s : State) : Result :=
  .next ((s.setReg .a r.1).setFlags { s.flags with cy := r.2 })

/-- RLC (R202, 0x07). -/
def execRlc (s : State) : Result := rotateA (rotateLeft s.regs.a (s.regs.a.getLsbD 7)) s

/-- RRC (R203, 0x0F). -/
def execRrc (s : State) : Result := rotateA (rotateRight s.regs.a (s.regs.a.getLsbD 0)) s

/-- RAL (R204, 0x17). -/
def execRal (s : State) : Result := rotateA (rotateLeft s.regs.a s.flags.cy) s

/-- RAR (R205, 0x1F). -/
def execRar (s : State) : Result := rotateA (rotateRight s.regs.a s.flags.cy) s

/-- CMA (R199, 0x2F): no flag is written. -/
def execCma (s : State) : Result := .next (s.setReg .a (~~~s.regs.a))

/-- STC (R200, 0x37). -/
def execStc (s : State) : Result := .next (s.setFlags { s.flags with cy := true })

/-- CMC (R201, 0x3F). -/
def execCmc (s : State) : Result := .next (s.setFlags { s.flags with cy := !s.flags.cy })

/-- ANA B (R190, 0xA0). -/
def execAnaB (s : State) : Result := aluOperand .ana (.reg .b) s

/-- ANA C (R190, 0xA1). -/
def execAnaC (s : State) : Result := aluOperand .ana (.reg .c) s

/-- ANA D (R190, 0xA2). -/
def execAnaD (s : State) : Result := aluOperand .ana (.reg .d) s

/-- ANA E (R190, 0xA3). -/
def execAnaE (s : State) : Result := aluOperand .ana (.reg .e) s

/-- ANA H (R190, 0xA4). -/
def execAnaH (s : State) : Result := aluOperand .ana (.reg .h) s

/-- ANA L (R190, 0xA5). -/
def execAnaL (s : State) : Result := aluOperand .ana (.reg .l) s

/-- ANA M (R191, 0xA6). -/
def execAnaM (s : State) : Result := aluOperand .ana .mem s

/-- ANA A (R190, 0xA7). -/
def execAnaA (s : State) : Result := aluOperand .ana (.reg .a) s

/-- XRA B (R193, 0xA8). -/
def execXraB (s : State) : Result := aluOperand .xra (.reg .b) s

/-- XRA C (R193, 0xA9). -/
def execXraC (s : State) : Result := aluOperand .xra (.reg .c) s

/-- XRA D (R193, 0xAA). -/
def execXraD (s : State) : Result := aluOperand .xra (.reg .d) s

/-- XRA E (R193, 0xAB). -/
def execXraE (s : State) : Result := aluOperand .xra (.reg .e) s

/-- XRA H (R193, 0xAC). -/
def execXraH (s : State) : Result := aluOperand .xra (.reg .h) s

/-- XRA L (R193, 0xAD). -/
def execXraL (s : State) : Result := aluOperand .xra (.reg .l) s

/-- XRA M (R194, 0xAE). -/
def execXraM (s : State) : Result := aluOperand .xra .mem s

/-- XRA A (R193, 0xAF). -/
def execXraA (s : State) : Result := aluOperand .xra (.reg .a) s

/-- ORA B (R196, 0xB0). -/
def execOraB (s : State) : Result := aluOperand .ora (.reg .b) s

/-- ORA C (R196, 0xB1). -/
def execOraC (s : State) : Result := aluOperand .ora (.reg .c) s

/-- ORA D (R196, 0xB2). -/
def execOraD (s : State) : Result := aluOperand .ora (.reg .d) s

/-- ORA E (R196, 0xB3). -/
def execOraE (s : State) : Result := aluOperand .ora (.reg .e) s

/-- ORA H (R196, 0xB4). -/
def execOraH (s : State) : Result := aluOperand .ora (.reg .h) s

/-- ORA L (R196, 0xB5). -/
def execOraL (s : State) : Result := aluOperand .ora (.reg .l) s

/-- ORA M (R197, 0xB6). -/
def execOraM (s : State) : Result := aluOperand .ora .mem s

/-- ORA A (R196, 0xB7). -/
def execOraA (s : State) : Result := aluOperand .ora (.reg .a) s

/-- ANI d8 (R192, 0xE6). -/
def execAni (d8 : Byte) (s : State) : Result := .next (aluOnA .ana d8 s)

/-- XRI d8 (R195, 0xEE). -/
def execXri (d8 : Byte) (s : State) : Result := .next (aluOnA .xra d8 s)

/-- ORI d8 (R198, 0xF6). -/
def execOri (d8 : Byte) (s : State) : Result := .next (aluOnA .ora d8 s)

end Sys2Proof.Machine
end

