-- ==== Sys2Proof/Machine/Stack.lean ====
section
/-! DEFINITION. The stack instructions (44_stack.md R271 to R276). -/

namespace Sys2Proof.Machine

/-- POP B (R273, 0xC1). -/
def execPopB (s : State) : Result :=
  let (v, t) := pop16 s
  .next (t.setPair .bc v)

/-- PUSH B (R271, 0xC5). -/
def execPushB (s : State) : Result := .next (push16 (s.pair .bc) s)

/-- POP D (R273, 0xD1). -/
def execPopD (s : State) : Result :=
  let (v, t) := pop16 s
  .next (t.setPair .de v)

/-- PUSH D (R271, 0xD5). -/
def execPushD (s : State) : Result := .next (push16 (s.pair .de) s)

/-- POP H (R273, 0xE1). -/
def execPopH (s : State) : Result :=
  let (v, t) := pop16 s
  .next (t.setPair .hl v)

/-- XTHL (R275, 0xE3): both reads precede both writes, SP is unchanged. -/
def execXthl (s : State) : Result :=
  let (v, t) := memRead16 s.sp s
  .next ((memWrite16 s.sp (s.pair .hl) t).setPair .hl v)

/-- PUSH H (R271, 0xE5). -/
def execPushH (s : State) : Result := .next (push16 (s.pair .hl) s)

/-- POP PSW (R274, 0xF1): bits 5, 3 and 1 of the popped byte are discarded. -/
def execPopPsw (s : State) : Result :=
  let (v, t) := pop16 s
  .next ((t.setFlags (Flags.ofByte (loByte v))).setReg .a (hiByte v))

/-- PUSH PSW (R272, 0xF5). -/
def execPushPsw (s : State) : Result := .next (push16 s.psw s)

/-- SPHL (R276, 0xF9). -/
def execSphl (s : State) : Result := .next (s.setSp (s.pair .hl))

end Sys2Proof.Machine
end

