-- ==== Sys2Proof/Machine/Fetch.lean ====
section
/-! DEFINITION. The fetch and operand-fetch phases of a step (30_encoding.md R105, 10_state.md R28). -/

namespace Sys2Proof.Machine

/-- Read the byte at PC and advance PC by one, wrapping. -/
def fetchByte (s : State) : Byte × State :=
  let (v, t) := memRead s.pc s
  (v, t.setPc (s.pc + 1))

/-- Fetch the opcode into IR. -/
def fetchOpcode (s : State) : State :=
  let (op, s) := fetchByte s
  s.setIr op

/-- Fetch the first operand byte into the latch Z_. -/
def fetchFirstOperand (s : State) : State :=
  let (v, s) := fetchByte s
  s.setZLatch v

/-- Fetch the second operand byte into the latch W. -/
def fetchSecondOperand (s : State) : State :=
  let (v, s) := fetchByte s
  s.setWLatch v

/-- Fetch the operand bytes the opcode has (R95), in ascending order; the others leave their latch alone (R35). -/
def fetchOperands (count : Nat) (s : State) : State :=
  match count with
  | 0 => s
  | 1 => fetchFirstOperand s
  | _ => fetchSecondOperand (fetchFirstOperand s)

/-- Fetch one whole instruction: the instruction, and the state at the start of its execute phase, where PC is the
address of the next sequential instruction. Decoding depends on IR and the operand bytes only (R104). -/
def fetch (s : State) : Instr × State :=
  let s := fetchOpcode s
  let s := fetchOperands (operandCount s.ir) s
  (decodeOpcode s.ir s.zLatch s.wLatch, s)

end Sys2Proof.Machine
end

