-- ==== Sys2Proof/Machine/Step.lean ====
section
/-! DEFINITION. One step (30_encoding.md R105), and where it fetches its next instruction. -/

namespace Sys2Proof.Machine

/-- `step()`: nothing while halted (R38, R344), else one whole fetch, operand fetch and execute. The value the spec's
`step` returns, "whether the CPU is now halted", is the field `halted` of the state it answers. -/
def step (s : State) : Host.Outcome State Fault Refusal :=
  if s.halted then .next s
  else
    let (i, t) := fetch s
    exec i t

/-- The state with the instruction of a table word stored where `step` fetches its next one: three bytes at PC, PC + 1
and PC + 2. A halted machine fetches nothing, so HALTED is cleared. It stands for the host's `load` (log entry 7). -/
def State.withFetchWord (s : State) (nbits w : Nat) : State :=
  match tableBytes nbits w with
  | [b0, b1, b2] =>
    { s with
      halted := false
      mem := ((s.mem.write s.pc b0).write (s.pc + 1) b1).write (s.pc + 2) b2 }
  | _ => s

end Sys2Proof.Machine
end

