-- ==== Sys2Proof/Machine/HostOps.lean ====
section
/-! DEFINITION. The host's operations between steps (70_reset_and_hazards.md R350): `reset`, `load`, `run`, `snapshot`. -/

namespace Sys2Proof.Machine

/-- `reset()` (R340): every register, flag and latch zero, INTE and HALTED clear. "Memory is untouched"; no transaction
occurs and the history keeps what it held (R342, R343). -/
def hostReset (s : State) : State :=
  { State.reset with mem := s.mem, bus := s.bus, portReads := s.portReads }

/-- The memory after `load(bytes, base)` (R352): byte i at `(base + i) mod 65536`, in ascending order. -/
def Memory.load (m : Memory) (bytes : List Byte) (base : Word) : Memory :=
  match bytes with
  | [] => m
  | v :: rest => Memory.load (m.write base v) rest (base + 1)

/-- `load(bytes, base)` (R79, R352): memory only, also while halted. It is the host's, not a transaction of the core. -/
def hostLoad (bytes : List Byte) (base : Word) (s : State) : State := s.setMem (s.mem.load bytes base)

/-- What `snapshot()` returns (R353). -/
structure Snapshot where
  b : Byte
  c : Byte
  d : Byte
  e : Byte
  h : Byte
  l : Byte
  a : Byte
  flags : Byte
  sp : Word
  pc : Word
  halted : Bool
  interruptsEnabled : Bool
  deriving DecidableEq, Repr

/-- `snapshot()` (R353): a read-only view; W, Z_, IR and memory are not in it. -/
def snapshot (s : State) : Snapshot :=
  { b := s.regs.b, c := s.regs.c, d := s.regs.d, e := s.regs.e, h := s.regs.h, l := s.regs.l, a := s.regs.a
    flags := s.flags.byte, sp := s.sp, pc := s.pc, halted := s.halted, interruptsEnabled := s.inte }

/-- `run(stop_predicate)` (R351): HALTED is tested, then the predicate, then a step runs. `stops` holds the predicate's
answers in the order it is asked; the run ends with them if not before (log entry 9). -/
def hostRun (stops : List Bool) (s : State) : Result :=
  match stops with
  | [] => .next s
  | stop :: rest =>
    if s.halted then .next s
    else if stop then .next s
    else
      match step s with
      | .next t => hostRun rest t
      | .fault r => .fault r
      | .refused r => .refused r

/-- The I/O trace (R77): the port transactions of the history, in program order. -/
def State.ioTrace (s : State) : List BusEvent :=
  s.bus.filter fun e =>
    match e with
    | .portIn _ _ => true
    | .portOut _ _ => true
    | .memRead _ _ => false
    | .memWrite _ _ => false

end Sys2Proof.Machine
end

