-- ==== Sys2Proof/Safety.lean ====
section
/-! DEFINITION. What counts as a safe run and a sound state, in the terms the statements use. -/

namespace Sys2Proof.Machine

/-- The number of port reads in a history: what D21 calls "how many port reads came before". -/
def portReadsIn : List BusEvent → Nat
  | [] => 0
  | .portIn _ _ :: es => portReadsIn es + 1
  | .portOut _ _ :: es => portReadsIn es
  | .memRead _ _ :: es => portReadsIn es
  | .memWrite _ _ :: es => portReadsIn es

/-- The invariant of the machine: memory is in its canonical form, and the counter the PortIn oracle is applied to is
the number of port reads in the history. -/
def State.Inv (s : State) : Prop := s.mem.wf = true ∧ s.portReads = portReadsIn s.bus

/-- A state from which the next step answers a next state: neither a fault nor a refusal (30_encoding.md R105). -/
def State.Steps (s : State) : Prop := ∃ t, step s = .next t

/-- The program has terminated (70_reset_and_hazards.md R345). -/
def State.Terminated (s : State) : Prop := s.halted = true

end Sys2Proof.Machine
end

