-- ==== Sys2Proof/WellFormed.lean ====
section
/-! DEFINITION. What a well-formed instruction is.

As a term, every `Instr` is well formed: an operand is exactly a byte or a word, and "every d8 and every d16 is legal
for every instruction that takes one" (30_encoding.md R99). As bytes, an instruction is its opcode byte followed by
exactly the operand bytes its table entry counts (R90, R91, R95): that is the check below. -/

namespace Sys2Proof

/-- These bytes are exactly one instruction: an opcode, and as many bytes after it as the opcode has operand bytes. -/
def wellFormedBytes : List Byte → Bool
  | [] => false
  | op :: rest => rest.length == operandCount op

end Sys2Proof
end

