-- ==== Sys2Proof/Certificates/Slice0/Obligations.lean ====
section
/-! DEFINITION. The statements for the provers. Every statement about an instruction names its encoding, has as its
conclusion that `exec` answers a next state, and gives that state as an update of the one before: a field the update
does not name is unchanged. M stands for the byte at HL; families of constructors are named by the patterns of
30_encoding.md R96 (`movOf`, `aluOf`, ...), whose members each docstring lists. A docstring ends with the spec's own
decisions (D<n>) and the log entries its statement rests on: the opcode values but for the 19 of R103 are decision D1. -/

namespace Sys2Proof.Claims

open Sys2Proof.Machine

/-- The number of one bits of a byte. -/
def setBits (v : Byte) : Nat := ((List.range 8).filter fun k => v.getLsbD k).length

/-- "Zero = result==0; Sign = bit 7 of result; Parity = 1 if the result's set-bit count is even" (R13). -/
def ResultFlags (f : Flags) (res : Byte) : Prop :=
  (f.z = true ↔ res.toNat = 0) ∧ (f.s = true ↔ 128 ≤ res.toNat) ∧ (f.p = true ↔ setBits res % 2 = 0)

/-- Executing `i` writes A + v + cin to A and all five flags from that sum, with the transactions given. -/
def AddsToA (i : Instr) (v : Byte) (cin : Bool) (events : List BusEvent) (s : State) : Prop :=
  ∃ t, exec i s = .next t ∧
    t.regs.a.toNat = (s.regs.a.toNat + v.toNat + cin.toNat) % 256 ∧
    ResultFlags t.flags t.regs.a ∧
    (t.flags.cy = true ↔ 255 < s.regs.a.toNat + v.toNat + cin.toNat) ∧
    (t.flags.ac = true ↔ 15 < s.regs.a.toNat % 16 + v.toNat % 16 + cin.toNat) ∧
    t = { s with regs := { s.regs with a := t.regs.a }, flags := t.flags, bus := s.bus ++ events }

/-- The flags `f` are those of the subtraction A - v - bin with result `res`; CY and AC are borrows (R152). -/
def SubtractionFlags (f : Flags) (a v : Byte) (bin : Bool) (res : Byte) : Prop :=
  (res.toNat : Int) = ((a.toNat : Int) - v.toNat - bin.toNat) % 256 ∧
  ResultFlags f res ∧
  (f.cy = true ↔ a.toNat < v.toNat + bin.toNat) ∧
  (f.ac = true ↔ a.toNat % 16 < v.toNat % 16 + bin.toNat)

/-- Executing `i` writes A - v - bin to A and all five flags from that difference. -/
def SubtractsFromA (i : Instr) (v : Byte) (bin : Bool) (events : List BusEvent) (s : State) : Prop :=
  ∃ t, exec i s = .next t ∧
    SubtractionFlags t.flags s.regs.a v bin t.regs.a ∧
    t = { s with regs := { s.regs with a := t.regs.a }, flags := t.flags, bus := s.bus ++ events }

/-- Executing `i` writes all five flags from A - v and no register. -/
def ComparesWithA (i : Instr) (v : Byte) (events : List BusEvent) (s : State) : Prop :=
  ∃ t res, exec i s = .next t ∧
    SubtractionFlags t.flags s.regs.a v false res ∧
    t = { s with flags := t.flags, bus := s.bus ++ events }

/-- Executing `i` combines A and v bit by bit with `f`, sets Z, S, P from the result, and clears CY and AC. -/
def CombinesWithA (i : Instr) (f : Bool → Bool → Bool) (v : Byte) (events : List BusEvent) (s : State) : Prop :=
  ∃ t, exec i s = .next t ∧
    (∀ k, k < 8 → t.regs.a.getLsbD k = f (s.regs.a.getLsbD k) (v.getLsbD k)) ∧
    ResultFlags t.flags t.regs.a ∧ t.flags.cy = false ∧ t.flags.ac = false ∧
    t = { s with regs := { s.regs with a := t.regs.a }, flags := t.flags, bus := s.bus ++ events }

/-- Executing `i` stores one byte: the write at `addr` is the only transaction, every other cell reads as before. -/
def StoresByte (i : Instr) (addr : Word) (v : Byte) (s : State) : Prop :=
  ∃ t, exec i s = .next t ∧
    (∀ x, t.mem.read x = if x = addr then v else s.mem.read x) ∧
    t = { s with mem := t.mem, bus := s.bus ++ [.memWrite addr v] }

/-- The memory of `t` is that of `s` with the word `v` at `addr`, low byte first, high byte at `addr + 1`. -/
def HoldsWord (t s : State) (addr v : Word) : Prop :=
  ∀ x, t.mem.read x =
    if x = addr then loByte v else if x = addr + 1 then hiByte v else s.mem.read x

/-- The word in memory at `addr`, low byte first. -/
def wordAt (s : State) (addr : Word) : Word := wordOf (s.mem.read (addr + 1)) (s.mem.read addr)

/-- The two reads of the word at `addr`, in their order. -/
def wordReads (s : State) (addr : Word) : List BusEvent :=
  [.memRead addr (s.mem.read addr), .memRead (addr + 1) (s.mem.read (addr + 1))]

/-- Executing `i` pushes `v`: the high byte at SP - 1, then the low byte at SP - 2, and PC becomes `target`. -/
def PushesAndGoesTo (i : Instr) (v target : Word) (s : State) : Prop :=
  ∃ t, exec i s = .next t ∧ HoldsWord t s (s.sp - 2) v ∧
    t = { s with
      sp := s.sp - 2
      pc := target
      mem := t.mem
      bus := s.bus ++ [.memWrite (s.sp - 1) (hiByte v), .memWrite (s.sp - 2) (loByte v)] }

/-- Executing `i` pops PC: the low byte from SP, the high byte from SP + 1, and SP + 2. -/
def PopsPc (i : Instr) (s : State) : Prop :=
  exec i s = .next { s with pc := wordAt s s.sp, sp := s.sp + 2, bus := s.bus ++ wordReads s s.sp }

/-- Executing `i` changes nothing. -/
def ChangesNothing (i : Instr) (s : State) : Prop := exec i s = .next s

/-- Replay a history on a memory `m`: each read returned what the memory held at that moment, each write set its cell,
ports touch no cell, and at the end the memory is `m'` (20_memory.md R71). -/
def Replays (m : Word → Byte) (events : List BusEvent) (m' : Word → Byte) : Prop :=
  match events with
  | [] => ∀ x, m' x = m x
  | .memRead a v :: rest => v = m a ∧ Replays m rest m'
  | .memWrite a v :: rest => Replays (fun x => if x = a then v else m x) rest m'
  | .portIn _ _ :: rest => Replays m rest m'
  | .portOut _ _ :: rest => Replays m rest m'

/-- The opcode byte of an instruction. -/
def opcodeOf (i : Instr) : Byte := (encode i).headD 0

/-- Opcodes whose rule writes Z, S, P and AC (R33): ALU (`10ooosss`, `11ooo110`), INR, DCR, DAA, POP PSW. -/
def writesResultFlags (op : Byte) : Bool :=
  quadrant op == 2 || (quadrant op == 3 && field20 op == 6) ||
  (quadrant op == 0 && (field20 op == 4 || field20 op == 5)) || op == 0x27 || op == 0xF1

/-- Opcodes whose rule writes CY (R33): ALU, DAD, DAA, the rotates, STC, CMC, POP PSW. -/
def writesCarry (op : Byte) : Bool :=
  quadrant op == 2 || (quadrant op == 3 && field20 op == 6) ||
  op ∈ ([0x09, 0x19, 0x29, 0x39, 0x27, 0x07, 0x0F, 0x17, 0x1F, 0x37, 0x3F, 0xF1] : List Byte)

/-- Opcodes that write SP (R26): LXI, INX, DCX of SP, SPHL, PUSH, POP, CALL and RET with their conditional forms
and aliases, RST. -/
def writesSp (op : Byte) : Bool :=
  op ∈ ([0x31, 0x33, 0x3B, 0xF9, 0xC9, 0xD9, 0xCD, 0xDD, 0xED, 0xFD] : List Byte) ||
  (quadrant op == 3 && (field20 op == 0 || field20 op == 4 || field20 op == 7)) ||
  op ∈ ([0xC5, 0xD5, 0xE5, 0xF5, 0xC1, 0xD1, 0xE1, 0xF1] : List Byte)

/-- Opcodes that write PC in the execute phase (R28): jumps, calls, returns, RST, PCHL. -/
def writesPc (op : Byte) : Bool :=
  op ∈ ([0xC3, 0xCB, 0xE9, 0xC9, 0xD9, 0xCD, 0xDD, 0xED, 0xFD] : List Byte) ||
  (quadrant op == 3 && (field20 op == 0 || field20 op == 2 || field20 op == 4 || field20 op == 7))

/-- The state at the start of the execute phase of `i` fetched in `s` (R105): PC past its bytes, the opcode in IR, its
operand bytes in Z_ and W where it has them, and its bytes read in ascending order. -/
def fetched (i : Instr) (s : State) : State :=
  { s with
    pc := s.pc + BitVec.ofNat 16 (encode i).length
    ir := (encode i).getD 0 s.ir
    zLatch := (encode i).getD 1 s.zLatch
    wLatch := (encode i).getD 2 s.wLatch
    bus := s.bus ++ (encode i).mapIdx fun k v => .memRead (s.pc + BitVec.ofNat 16 k) v }

/-- The bytes of `i` stand in memory at PC, wrapping at the top of the address space. -/
def StandsAtPc (i : Instr) (s : State) : Prop :=
  ∀ k, k < (encode i).length → s.mem.read (s.pc + BitVec.ofNat 16 k) = (encode i).getD k 0

end Sys2Proof.Claims

open Sys2Proof Sys2Proof.Machine Sys2Proof.Claims

/-! ### Decoding, fetching, stepping -/

/-- R94, R96, R104: decoding an encoded instruction gives it back, whatever bytes follow; no operand bit is dropped.
(decision D1, log entry 5.) -/
def Obligations.DecodeOfEncodeIsIdentity : Prop :=
  ∀ (i : Instr) (rest : List Byte), decode (encode i ++ rest) = .ok (i, rest)

/-- R90, R94, R99: bytes of the right length are the encoding of exactly one instruction, the one they decode to.
(decision D1, log entry 5.) -/
def Obligations.EncodeOfDecodeIsIdentity : Prop :=
  ∀ bytes : List Byte, wellFormedBytes bytes = true →
    ∃ i, decode bytes = .ok (i, []) ∧ encode i = bytes ∧ ∀ k, encode k = bytes → k = i

/-- R103: the 19 opcode values the source itself states. A value the source gives to NOP, JMP, RET or CALL a second time runs
as that instruction. -/
def Obligations.SourceStatedOpcodesDecode : Prop :=
  ∀ (z w : Byte) (s : State),
    decodeOpcode 0x3E z w = .mviA z ∧ decodeOpcode 0x06 z w = .mviB z ∧ decodeOpcode 0x80 z w = .addB ∧
    decodeOpcode 0x76 z w = .hlt ∧ decodeOpcode 0x32 z w = .sta (w ++ z) ∧ decodeOpcode 0x3A z w = .lda (w ++ z) ∧
    decodeOpcode 0xC5 z w = .pushB ∧ decodeOpcode 0xD1 z w = .popD ∧
    (∀ op ∈ ([0x08, 0x10, 0x18, 0x28, 0x30, 0x38] : List Byte), exec (decodeOpcode op z w) s = exec .nop s) ∧
    exec (decodeOpcode 0xCB z w) s = exec (.jmp (w ++ z)) s ∧ exec (decodeOpcode 0xD9 z w) s = exec .ret s ∧
    (∀ op ∈ ([0xDD, 0xED, 0xFD] : List Byte), exec (decodeOpcode op z w) s = exec (.call (w ++ z)) s)

/-- R95: the operand counts, list by list. (decision D1, log entry 5.) -/
def Obligations.OperandCountsFollowLengthTable : Prop :=
  ∀ op : Byte, operandCount op =
    if op ∈ ([0x01, 0x11, 0x21, 0x31, 0x22, 0x2A, 0x32, 0x3A, 0xC2, 0xCA, 0xD2, 0xDA, 0xE2, 0xEA, 0xF2, 0xFA, 0xC3, 0xCB,
      0xC4, 0xCC, 0xD4, 0xDC, 0xE4, 0xEC, 0xF4, 0xFC, 0xCD, 0xDD, 0xED, 0xFD] : List Byte) then 2
    else if op ∈ ([0x06, 0x0E, 0x16, 0x1E, 0x26, 0x2E, 0x36, 0x3E, 0xC6, 0xCE, 0xD6, 0xDE, 0xE6, 0xEE, 0xF6, 0xFE, 0xD3,
      0xDB] : List Byte) then 1
    else 0

/-- R97, R250, R292: "An alias differs from its target in nothing but the opcode byte value": each has its own opcode, the
length of its target, and its effect. Constructors nop08, nop10, nop18, nop28, nop38, sim (the 0x30 of the list), jmpCB,
retD9, callDD, callED, callFD. -/
def Obligations.AliasesBehaveAsTheirTargets : Prop :=
  ∀ (s : State) (a16 : Word),
    (encode .nop08 = [0x08] ∧ encode .nop10 = [0x10] ∧ encode .nop18 = [0x18] ∧ encode .nop28 = [0x28] ∧
      encode .sim = [0x30] ∧ encode .nop38 = [0x38] ∧
      ∀ i ∈ ([.nop08, .nop10, .nop18, .nop28, .sim, .nop38] : List Instr), exec i s = exec .nop s ∧ exec i s = .next s) ∧
    (encode (.jmpCB a16) = [0xCB, loByte a16, hiByte a16] ∧ exec (.jmpCB a16) s = exec (.jmp a16) s ∧
      exec (.jmpCB a16) s = .next { s with pc := a16 }) ∧
    (encode .retD9 = [0xD9] ∧ exec .retD9 s = exec .ret s) ∧
    (encode (.callDD a16) = [0xDD, loByte a16, hiByte a16] ∧ exec (.callDD a16) s = exec (.call a16) s) ∧
    (encode (.callED a16) = [0xED, loByte a16, hiByte a16] ∧ exec (.callED a16) s = exec (.call a16) s) ∧
    (encode (.callFD a16) = [0xFD, loByte a16, hiByte a16] ∧ exec (.callFD a16) s = exec (.call a16) s)

/-- R28, R93, R105: a machine that is not halted runs the instruction whose bytes stand at PC, from the state in which
PC is past it, the latches and IR hold its bytes and its bytes have been read in order; and at every PC some instruction
stands. (decision D12, log entry 5; history: log entry 4.) -/
def Obligations.StepRunsTheInstructionAtPc : Prop :=
  (∀ (i : Instr) (s : State), s.halted = false → StandsAtPc i s → step s = exec i (fetched i s)) ∧
  (∀ s : State, ∃ i, StandsAtPc i s)

/-- R38: a step leaves HALTED set exactly if it was set or the opcode at PC is HLT; reset clears it; `load` does not write it;
while it is set a step changes nothing and makes no transaction; `snapshot` reports it. -/
def Obligations.HaltedIsWrittenByHltAndResetAndIsTerminal : Prop :=
  (∀ s t : State, step s = .next t → t.halted = (s.halted || decide (s.mem.read s.pc = 0x76))) ∧
  (∀ s : State, (hostReset s).halted = false) ∧
  (∀ (bytes : List Byte) (base : Word) (s : State), (hostLoad bytes base s).halted = s.halted) ∧
  (∀ s : State, s.halted = true → step s = .next s) ∧
  (∀ s : State, (snapshot s).halted = s.halted)

/-- R105, R310: the step is total; from every state it answers a next state, never a fault or a refusal. -/
def Obligations.EveryStateSteps : Prop := ∀ s : State, s.Steps

/-! ### Invariants and whole-machine rules -/

/-- The invariant holds at reset. (The invariant is about the model's own representation: log entries 1, 3 and 4.) -/
def Obligations.ResetMeetsInvariant : Prop := State.reset.Inv

/-- Every step keeps the invariant: memory stays in canonical form, and the counter the PortIn oracle is applied to stays
the number of port reads in the history. (D21; the invariant is about the model's own representation: log entries 1, 3 and 4.) -/
def Obligations.StepKeepsInvariant : Prop :=
  ∀ s t : State, s.Inv → step s = .next t → t.Inv

/-- R61, R68, R71: a step appends to the history the transactions that took place, and they account for memory: each read
returned the most recent write to its address, and the cells a write named are the only ones that changed.
(history: log entry 4.) -/
def Obligations.HistoryAccountsForMemory : Prop :=
  ∀ s t : State, step s = .next t →
    ∃ events, t.bus = s.bus ++ events ∧ Replays s.mem.read events t.mem.read

/-- R33: an instruction whose row of the table has a dash leaves the flag alone. (decisions D1, D10, log entry 5.) -/
def Obligations.FlagsAreWrittenOnlyByTheirInstructions : Prop :=
  ∀ (i : Instr) (s t : State), exec i s = .next t →
    (writesResultFlags (opcodeOf i) = false →
      t.flags.z = s.flags.z ∧ t.flags.s = s.flags.s ∧ t.flags.p = s.flags.p ∧ t.flags.ac = s.flags.ac) ∧
    (writesCarry (opcodeOf i) = false → t.flags.cy = s.flags.cy)

/-- R26, R28: SP and PC are written in the execute phase only by the instructions the rules list.
(decision D1, log entry 5.) -/
def Obligations.SpAndPcAreWrittenOnlyByTheirInstructions : Prop :=
  ∀ (i : Instr) (s t : State), exec i s = .next t →
    (writesSp (opcodeOf i) = false → t.sp = s.sp) ∧ (writesPc (opcodeOf i) = false → t.pc = s.pc)

/-- R37: EI sets INTE, DI clears it, no other instruction writes it, reset clears it, `snapshot` reports it, and it has no
effect on execution: two machines that differ in INTE alone step to machines that differ in INTE at most.
(That the two machines agree on IN is the model's choice, not R37's: the PortIn answer is a function of the port and of
the number of port reads before, D21, log entry 3.) -/
def Obligations.InteIsTrackedAndNotActedUpon : Prop :=
  (∀ (i : Instr) (s t : State), exec i s = .next t →
    t.inte = if i = .ei then true else if i = .di then false else s.inte) ∧
  (∀ s : State, (hostReset s).inte = false ∧ (snapshot s).interruptsEnabled = s.inte) ∧
  (∀ (s : State) (b : Bool), ∃ t b', step s = .next t ∧ step { s with inte := b } = .next { t with inte := b' })

/-- R35, R36: W, Z_ and IR between steps are unobservable: two machines that differ in them alone step to machines that
differ in them at most. (decisions D12, D13, log entry 5. That the two machines agree on IN is the model's choice: the
PortIn answer is a function of the port and of the number of port reads before, D21, log entry 3.) -/
def Obligations.LatchesBetweenStepsAreUnobservable : Prop :=
  ∀ (s : State) (w z ir : Byte), ∃ t w' z' ir', step s = .next t ∧
    step { s with wLatch := w, zLatch := z, ir := ir } = .next { t with wLatch := w', zLatch := z', ir := ir' }

/-! ### Reset and the host -/

/-- R340 to R343: `reset()` zeroes the registers, flags and latches and clears INTE and HALTED; memory and the history are
untouched; the Flags byte is FLAGS_FIXED; applied twice it equals once; the state after power-on is the state after reset,
with every cell of memory MEM_INIT. (Latches zeroed: decision D18, power-on: D17, log entries 1, 5 and 10; the Flags byte:
D3, D4, log entry 2; that the port-read counter and the history are kept is the model's choice for its own fields, log
entries 3 and 4.) -/
def Obligations.ResetZeroesRegistersAndKeepsMemory : Prop :=
  (∀ s : State, ∃ t, hostReset s = t ∧
    (∀ r, t.regs.get r = 0) ∧ t.sp = 0 ∧ t.pc = 0 ∧
    t.flags.z = false ∧ t.flags.s = false ∧ t.flags.p = false ∧ t.flags.cy = false ∧ t.flags.ac = false ∧
    t.wLatch = 0 ∧ t.zLatch = 0 ∧ t.ir = 0 ∧ t.inte = false ∧ t.halted = false ∧
    t.mem = s.mem ∧ t.bus = s.bus ∧ t.portReads = s.portReads ∧
    (snapshot t).flags = Config.flagsFixed ∧ hostReset t = t) ∧
  hostReset State.reset = State.reset ∧ ∀ a : Word, State.reset.mem.read a = Config.memInit a

/-- R352: `load` writes byte i at (base + i) mod 65536, a later byte over an earlier one; every address outside the range
and every other piece of state is unchanged. (decision D19, log entry 5; a load adds nothing to the history: log entry 4.) -/
def Obligations.LoadWritesExactlyItsRange : Prop :=
  ∀ (bytes : List Byte) (base : Word) (s : State), ∃ t, hostLoad bytes base s = t ∧
    t = { s with mem := t.mem } ∧
    (∀ x : Word, (∀ j, j < bytes.length → base + BitVec.ofNat 16 j ≠ x) → t.mem.read x = s.mem.read x) ∧
    (∀ j, j < bytes.length →
      (∀ k, j < k → k < bytes.length → base + BitVec.ofNat 16 k ≠ base + BitVec.ofNat 16 j) →
      t.mem.read (base + BitVec.ofNat 16 j) = bytes.getD j 0)

/-- R353: what `snapshot` reports; the five flags are recovered from the Flags byte by the masks of R30.
(decisions D3, D4, log entries 2 and 5.) -/
def Obligations.SnapshotReportsTheState : Prop :=
  ∀ s : State,
    (snapshot s).b = s.regs.b ∧ (snapshot s).c = s.regs.c ∧ (snapshot s).d = s.regs.d ∧ (snapshot s).e = s.regs.e ∧
    (snapshot s).h = s.regs.h ∧ (snapshot s).l = s.regs.l ∧ (snapshot s).a = s.regs.a ∧
    (snapshot s).sp = s.sp ∧ (snapshot s).pc = s.pc ∧
    (snapshot s).halted = s.halted ∧ (snapshot s).interruptsEnabled = s.inte ∧
    ((snapshot s).flags &&& 0x80 ≠ 0 ↔ s.flags.s = true) ∧ ((snapshot s).flags &&& 0x40 ≠ 0 ↔ s.flags.z = true) ∧
    ((snapshot s).flags &&& 0x10 ≠ 0 ↔ s.flags.ac = true) ∧ ((snapshot s).flags &&& 0x04 ≠ 0 ↔ s.flags.p = true) ∧
    ((snapshot s).flags &&& 0x01 ≠ 0 ↔ s.flags.cy = true)

/-- R345, R351: a run whose stop condition is false at the first n tests is n steps of the machine; if it is true at the next
test, no further step runs, whatever would be answered later. (Order of the tests: decision D29, log entry 5; the answers
as a list with which the run ends: the model's choice, log entry 9.) -/
def Obligations.RunIsRepeatedStep : Prop :=
  ∀ (n : Nat) (s : State),
    hostRun (List.replicate n false) s = Host.Core.run Sys2Proof.core n s ∧
    ∀ later : List Bool, hostRun (List.replicate n false ++ true :: later) s = Host.Core.run Sys2Proof.core n s

/-- R30, R31, R32: the layout of the Flags byte, the bits POP PSW drops, and PSW. (decisions D3, D4, log entries 2 and 5.) -/
def Obligations.FlagsBytePacksAndUnpacks : Prop :=
  (∀ f : Flags, f.byte.getLsbD 7 = f.s ∧ f.byte.getLsbD 6 = f.z ∧ f.byte.getLsbD 4 = f.ac ∧ f.byte.getLsbD 2 = f.p ∧
    f.byte.getLsbD 0 = f.cy ∧ f.byte &&& 0x2A = Config.flagsFixed ∧ Flags.ofByte f.byte = f) ∧
  (∀ v : Byte, (Flags.ofByte v).byte = (v &&& 0xD5) ||| Config.flagsFixed) ∧
  Config.flagsFixed &&& 0xD5 = 0 ∧
  (∀ s : State, s.psw.toNat = s.regs.a.toNat * 256 + s.flags.byte.toNat)

/-- R24: a pair is a view of two registers, the first-named one its high byte; what is written to the pair is at once in its
registers and the reverse; the other registers and SP keep their values. -/
def Obligations.PairsAreHighFirstViews : Prop :=
  ∀ s : State,
    (s.pair .bc).toNat = 256 * s.regs.b.toNat + s.regs.c.toNat ∧
    (s.pair .de).toNat = 256 * s.regs.d.toNat + s.regs.e.toNat ∧
    (s.pair .hl).toNat = 256 * s.regs.h.toNat + s.regs.l.toNat ∧
    ∀ v : Word, ∃ hi lo : Byte, hi.toNat = v.toNat / 256 ∧ lo.toNat = v.toNat % 256 ∧
      s.setPair .bc v = { s with regs := { s.regs with b := hi, c := lo } } ∧
      s.setPair .de v = { s with regs := { s.regs with d := hi, e := lo } } ∧
      s.setPair .hl v = { s with regs := { s.regs with h := hi, l := lo } } ∧
      (s.setReg .b hi).pair .bc = wordOf hi s.regs.c ∧ (s.setReg .c lo).pair .bc = wordOf s.regs.b lo

/-- R23: an operand of register code c is read and written as the register c, or for code 6 as the byte at H:L, the address
formed at the moment of the access; a code outside 0 to 7 cannot arise. -/
def Obligations.OperandAccessByCode : Prop :=
  ∀ (code : BitVec 3) (s : State),
    operandCode (operandOf code) = code ∧
    (code = 6 → ∀ v : Byte,
      (∃ history, readOperand (operandOf code) s =
        (s.mem.read (wordOf s.regs.h s.regs.l), { s with bus := history })) ∧
      writeOperand (operandOf code) v s = memWrite (wordOf s.regs.h s.regs.l) v s) ∧
    (code ≠ 6 → ∃ r : Reg8, regCode r = code ∧ readOperand (operandOf code) s = (s.regs.get r, s) ∧
      ∀ v : Byte, ∃ t, writeOperand (operandOf code) v s = t ∧ t.regs.get r = v ∧
        (∀ q, q ≠ r → t.regs.get q = s.regs.get q) ∧ t = { s with regs := t.regs })

/-- R61: a read returns the byte of its cell and changes nothing; a write changes exactly one cell, any cell, and a read of it
sees the byte. (The history is the model's own field; no clause rests on it.) -/
def Obligations.MemoryBusReadsAndWritesOneCell : Prop :=
  ∀ (a : Word) (v : Byte) (s : State),
    (∃ history, memRead a s = (s.mem.read a, { s with bus := history })) ∧
    (∃ t history, memWrite a v s = t ∧ t.mem.read a = v ∧ (∀ x, x ≠ a → t.mem.read x = s.mem.read x) ∧
      t = { s with mem := t.mem, bus := history })

/-! ### Data transfer -/

/-- R121, R122, R123: MOV r,r; MOV r,M; MOV M,r. Constructors movBB to movAA, movBM to movAM, movMB to movMA.
(decision D1, log entry 5; history: log entry 4.) -/
def Obligations.MovCopiesItsSource : Prop :=
  (∀ (dst src : Reg8) (s : State),
    encode (movOf (.reg dst) (.reg src)) = [0b01#2 ++ regCode dst ++ regCode src] ∧
    ∃ t, exec (movOf (.reg dst) (.reg src)) s = .next t ∧ t.regs.get dst = s.regs.get src ∧
      (∀ r, r ≠ dst → t.regs.get r = s.regs.get r) ∧ t = { s with regs := t.regs }) ∧
  (∀ (dst : Reg8) (s : State),
    encode (movOf (.reg dst) .mem) = [0b01#2 ++ regCode dst ++ 0b110#3] ∧
    ∃ t, exec (movOf (.reg dst) .mem) s = .next t ∧ t.regs.get dst = s.mem.read (s.pair .hl) ∧
      (∀ r, r ≠ dst → t.regs.get r = s.regs.get r) ∧
      t = { s with regs := t.regs, bus := s.bus ++ [.memRead (s.pair .hl) (s.mem.read (s.pair .hl))] }) ∧
  (∀ (src : Reg8) (s : State),
    encode (movOf .mem (.reg src)) = [0b01110#5 ++ regCode src] ∧
    StoresByte (movOf .mem (.reg src)) (s.pair .hl) (s.regs.get src) s)

/-- R124, R125: MVI r,d8; MVI M,d8. Constructors mviB, mviC, mviD, mviE, mviH, mviL, mviA, mviM.
(decision D1, log entry 5; history: log entry 4.) -/
def Obligations.MviWritesImmediate : Prop :=
  (∀ (dst : Reg8) (d8 : Byte) (s : State),
    encode (mviOf (.reg dst) d8) = [0b00#2 ++ regCode dst ++ 0b110#3, d8] ∧
    ∃ t, exec (mviOf (.reg dst) d8) s = .next t ∧ t.regs.get dst = d8 ∧
      (∀ r, r ≠ dst → t.regs.get r = s.regs.get r) ∧ t = { s with regs := t.regs }) ∧
  (∀ (d8 : Byte) (s : State), encode (.mviM d8) = [0x36, d8] ∧ StoresByte (.mviM d8) (s.pair .hl) d8 s)

/-- R126: LXI rp,d16. Constructors lxiB, lxiD, lxiH, lxiSp. The third byte goes to the first-named register.
(decision D1, log entry 5.) -/
def Obligations.LxiLoadsPair : Prop :=
  ∀ (p : Pair) (d16 : Word) (s : State),
    encode (lxiOf p d16) = [0b00#2 ++ pairCode p ++ 0b0001#4, loByte d16, hiByte d16] ∧
    ∃ t, exec (lxiOf p d16) s = .next t ∧ t.pair p = d16 ∧ (∀ q, q ≠ p → t.pair q = s.pair q) ∧
      t.regs.a = s.regs.a ∧ t = { s with regs := t.regs, sp := t.sp }

/-- R127, R128, R133: STAX B, STAX D, STA a16 store A. (decision D1, log entry 5; history: log entry 4.) -/
def Obligations.StaxAndStaStoreA : Prop :=
  ∀ (a16 : Word) (s : State),
    (encode .staxB = [0x02] ∧ StoresByte .staxB (wordOf s.regs.b s.regs.c) s.regs.a s) ∧
    (encode .staxD = [0x12] ∧ StoresByte .staxD (wordOf s.regs.d s.regs.e) s.regs.a s) ∧
    (encode (.sta a16) = [0x32, loByte a16, hiByte a16] ∧ StoresByte (.sta a16) a16 s.regs.a s)

/-- R129, R130, R134: LDAX B, LDAX D, LDA a16 load A. (decision D1, log entry 5; history: log entry 4.) -/
def Obligations.LdaxAndLdaLoadA : Prop :=
  ∀ (a16 : Word) (s : State),
    (encode .ldaxB = [0x0A] ∧ exec .ldaxB s = .next { s with
      regs := { s.regs with a := s.mem.read (wordOf s.regs.b s.regs.c) }
      bus := s.bus ++ [.memRead (wordOf s.regs.b s.regs.c) (s.mem.read (wordOf s.regs.b s.regs.c))] }) ∧
    (encode .ldaxD = [0x1A] ∧ exec .ldaxD s = .next { s with
      regs := { s.regs with a := s.mem.read (wordOf s.regs.d s.regs.e) }
      bus := s.bus ++ [.memRead (wordOf s.regs.d s.regs.e) (s.mem.read (wordOf s.regs.d s.regs.e))] }) ∧
    (encode (.lda a16) = [0x3A, loByte a16, hiByte a16] ∧ exec (.lda a16) s = .next { s with
      regs := { s.regs with a := s.mem.read a16 }, bus := s.bus ++ [.memRead a16 (s.mem.read a16)] })

/-- R131, R132: SHLD and LHLD, L at a16 and H at (a16 + 1) mod 65536. "SHLD a then LHLD a restores HL", whatever HL held in
between, as long as the two cells are not written.
(decisions D1, D5, log entry 5; the order of the two transactions: D7, log entry 4.) -/
def Obligations.ShldAndLhldMoveHl : Prop :=
  ∀ (a16 : Word) (s : State),
    (encode (.shld a16) = [0x22, loByte a16, hiByte a16] ∧
      ∃ t, exec (.shld a16) s = .next t ∧
        (∀ x, t.mem.read x = if x = a16 then s.regs.l else if x = a16 + 1 then s.regs.h else s.mem.read x) ∧
        t = { s with mem := t.mem, bus := s.bus ++ [.memWrite a16 s.regs.l, .memWrite (a16 + 1) s.regs.h] } ∧
        ∀ u : State, u.mem.read a16 = t.mem.read a16 → u.mem.read (a16 + 1) = t.mem.read (a16 + 1) →
          ∃ v, exec (.lhld a16) u = .next v ∧ v.pair .hl = s.pair .hl) ∧
    (encode (.lhld a16) = [0x2A, loByte a16, hiByte a16] ∧
      exec (.lhld a16) s = .next { s with
        regs := { s.regs with l := s.mem.read a16, h := s.mem.read (a16 + 1) }
        bus := s.bus ++ wordReads s a16 })

/-- R135: XCHG swaps HL and DE, high with high and low with low; twice in a row restores the state.
(decision D1, log entry 5.) -/
def Obligations.XchgSwapsHlAndDe : Prop :=
  ∀ s : State, encode .xchg = [0xEB] ∧
    ∃ t, exec .xchg s = .next t ∧
      t = { s with regs := { s.regs with h := s.regs.d, l := s.regs.e, d := s.regs.h, e := s.regs.l } } ∧
      exec .xchg t = .next s

/-! ### Arithmetic -/

/-- R153 to R158: ADD, ADI, ADC, ACI. Constructors addB to addA with addM, adi, adcB to adcA with adcM, aci.
(decision D1, log entry 5; history: log entry 4.) -/
def Obligations.AddsWriteSumAndFlags : Prop :=
  (∀ (src : Operand8) (s : State),
    encode (aluOf .add src) = [0b10000#5 ++ operandCode src] ∧
    AddsToA (aluOf .add src) (operandValue src s) false (operandBus src s) s) ∧
  (∀ (d8 : Byte) (s : State), encode (.adi d8) = [0xC6, d8] ∧ AddsToA (.adi d8) d8 false [] s) ∧
  (∀ (src : Operand8) (s : State),
    encode (aluOf .adc src) = [0b10001#5 ++ operandCode src] ∧
    AddsToA (aluOf .adc src) (operandValue src s) s.flags.cy (operandBus src s) s) ∧
  (∀ (d8 : Byte) (s : State), encode (.aci d8) = [0xCE, d8] ∧ AddsToA (.aci d8) d8 s.flags.cy [] s)

/-- R159 to R164: SUB, SUI, SBB, SBI. Constructors subB to subA with subM, sui, sbbB to sbbA with sbbM, sbi.
(decisions D1, D8, log entry 5; history: log entry 4.) -/
def Obligations.SubtractsWriteDifferenceAndFlags : Prop :=
  (∀ (src : Operand8) (s : State),
    encode (aluOf .sub src) = [0b10010#5 ++ operandCode src] ∧
    SubtractsFromA (aluOf .sub src) (operandValue src s) false (operandBus src s) s) ∧
  (∀ (d8 : Byte) (s : State), encode (.sui d8) = [0xD6, d8] ∧ SubtractsFromA (.sui d8) d8 false [] s) ∧
  (∀ (src : Operand8) (s : State),
    encode (aluOf .sbb src) = [0b10011#5 ++ operandCode src] ∧
    SubtractsFromA (aluOf .sbb src) (operandValue src s) s.flags.cy (operandBus src s) s) ∧
  (∀ (d8 : Byte) (s : State), encode (.sbi d8) = [0xDE, d8] ∧ SubtractsFromA (.sbi d8) d8 s.flags.cy [] s)

/-- R165, R166, R167: CMP and CPI set the flags of the subtraction and write no register; Z = 1 exactly when A equals the
operand, CY = 1 exactly when A is below it. Constructors cmpB to cmpA with cmpM, cpi.
(decisions D1, D8, log entry 5; history: log entry 4.) -/
def Obligations.ComparesWriteFlagsOnly : Prop :=
  (∀ (src : Operand8) (s : State),
    encode (aluOf .cmp src) = [0b10111#5 ++ operandCode src] ∧
    ComparesWithA (aluOf .cmp src) (operandValue src s) (operandBus src s) s) ∧
  (∀ (d8 : Byte) (s : State), encode (.cpi d8) = [0xFE, d8] ∧ ComparesWithA (.cpi d8) d8 [] s) ∧
  (∀ (d8 : Byte) (s t : State), exec (.cpi d8) s = .next t →
    (t.flags.z = true ↔ s.regs.a = d8) ∧ (t.flags.cy = true ↔ s.regs.a.toNat < d8.toNat))

/-- R168, R169: INR. Constructors inrB, inrC, inrD, inrE, inrH, inrL, inrA, inrM. CY is unchanged.
(decision D1, log entry 5; history: log entry 4.) -/
def Obligations.InrIncrementsAndKeepsCarry : Prop :=
  (∀ (dst : Reg8) (s : State),
    encode (inrOf (.reg dst)) = [0b00#2 ++ regCode dst ++ 0b100#3] ∧
    ∃ t, exec (inrOf (.reg dst)) s = .next t ∧
      (t.regs.get dst).toNat = ((s.regs.get dst).toNat + 1) % 256 ∧ (∀ r, r ≠ dst → t.regs.get r = s.regs.get r) ∧
      ResultFlags t.flags (t.regs.get dst) ∧ (t.flags.ac = true ↔ (s.regs.get dst).toNat % 16 = 15) ∧
      t.flags.cy = s.flags.cy ∧ t = { s with regs := t.regs, flags := t.flags }) ∧
  (∀ s : State, encode .inrM = [0x34] ∧
    ∃ t res, exec .inrM s = .next t ∧
      res.toNat = ((s.mem.read (s.pair .hl)).toNat + 1) % 256 ∧
      (∀ x, t.mem.read x = if x = s.pair .hl then res else s.mem.read x) ∧
      ResultFlags t.flags res ∧ (t.flags.ac = true ↔ (s.mem.read (s.pair .hl)).toNat % 16 = 15) ∧
      t.flags.cy = s.flags.cy ∧
      t = { s with
        mem := t.mem
        flags := t.flags
        bus := s.bus ++ [.memRead (s.pair .hl) (s.mem.read (s.pair .hl)), .memWrite (s.pair .hl) res] })

/-- R170, R171: DCR. Constructors dcrB, dcrC, dcrD, dcrE, dcrH, dcrL, dcrA, dcrM. CY is unchanged; AC is the borrow.
(decisions D1, D8, log entry 5; history: log entry 4.) -/
def Obligations.DcrDecrementsAndKeepsCarry : Prop :=
  (∀ (dst : Reg8) (s : State),
    encode (dcrOf (.reg dst)) = [0b00#2 ++ regCode dst ++ 0b101#3] ∧
    ∃ t, exec (dcrOf (.reg dst)) s = .next t ∧
      (t.regs.get dst).toNat = ((s.regs.get dst).toNat + 255) % 256 ∧ (∀ r, r ≠ dst → t.regs.get r = s.regs.get r) ∧
      ResultFlags t.flags (t.regs.get dst) ∧ (t.flags.ac = true ↔ (s.regs.get dst).toNat % 16 = 0) ∧
      t.flags.cy = s.flags.cy ∧ t = { s with regs := t.regs, flags := t.flags }) ∧
  (∀ s : State, encode .dcrM = [0x35] ∧
    ∃ t res, exec .dcrM s = .next t ∧
      res.toNat = ((s.mem.read (s.pair .hl)).toNat + 255) % 256 ∧
      (∀ x, t.mem.read x = if x = s.pair .hl then res else s.mem.read x) ∧
      ResultFlags t.flags res ∧ (t.flags.ac = true ↔ (s.mem.read (s.pair .hl)).toNat % 16 = 0) ∧
      t.flags.cy = s.flags.cy ∧
      t = { s with
        mem := t.mem
        flags := t.flags
        bus := s.bus ++ [.memRead (s.pair .hl) (s.mem.read (s.pair .hl)), .memWrite (s.pair .hl) res] })

/-- R172, R173: INX and DCX of BC, DE, HL, SP wrap and write no flag. Constructors inxB, inxD, inxH, inxSp, dcxB, dcxD,
dcxH, dcxSp. (decision D1, log entry 5.) -/
def Obligations.InxAndDcxWrapWithoutFlags : Prop :=
  ∀ (p : Pair) (s : State),
    (encode (inxOf p) = [0b00#2 ++ pairCode p ++ 0b0011#4] ∧
      ∃ t, exec (inxOf p) s = .next t ∧ (t.pair p).toNat = ((s.pair p).toNat + 1) % 65536 ∧
        (∀ q, q ≠ p → t.pair q = s.pair q) ∧ t.regs.a = s.regs.a ∧ t = { s with regs := t.regs, sp := t.sp }) ∧
    (encode (dcxOf p) = [0b00#2 ++ pairCode p ++ 0b1011#4] ∧
      ∃ t, exec (dcxOf p) s = .next t ∧ (t.pair p).toNat = ((s.pair p).toNat + 65535) % 65536 ∧
        (∀ q, q ≠ p → t.pair q = s.pair q) ∧ t.regs.a = s.regs.a ∧ t = { s with regs := t.regs, sp := t.sp })

/-- R174: DAD adds a pair or SP to HL and writes CY only, the carry out of bit 15. Constructors dadB, dadD, dadH, dadSp.
(decision D1, log entry 5.) -/
def Obligations.DadAddsToHlAndWritesCarry : Prop :=
  ∀ (p : Pair) (s : State),
    encode (dadOf p) = [0b00#2 ++ pairCode p ++ 0b1001#4] ∧
    ∃ t, exec (dadOf p) s = .next t ∧
      (t.pair .hl).toNat = ((s.pair .hl).toNat + (s.pair p).toNat) % 65536 ∧
      (t.flags.cy = true ↔ 65535 < (s.pair .hl).toNat + (s.pair p).toNat) ∧
      t = { s with
        regs := { s.regs with h := t.regs.h, l := t.regs.l }
        flags := { s.flags with cy := t.flags.cy } }

/-- R175: DAA. The second correction looks at the value after the first, both are modulo 256, AC and CY are set exactly
when the first and the second are taken. (decisions D1, D9, log entry 5.) -/
def Obligations.DaaCorrectsBothNibbles : Prop :=
  ∀ s : State, encode .daa = [0x27] ∧
    ∃ t a1, exec .daa s = .next t ∧
      (t.flags.ac = true ↔ 9 < s.regs.a.toNat % 16 ∨ s.flags.ac = true) ∧
      a1 = (if t.flags.ac then (s.regs.a.toNat + 6) % 256 else s.regs.a.toNat) ∧
      (t.flags.cy = true ↔ 9 < a1 / 16 ∨ s.flags.cy = true) ∧
      t.regs.a.toNat = (if t.flags.cy then (a1 + 96) % 256 else a1) ∧
      ResultFlags t.flags t.regs.a ∧
      t = { s with regs := { s.regs with a := t.regs.a }, flags := t.flags }

/-- R13, R151: `Add8`, the equivalent forms R151 gives of its carries, and `SetZSP`, which keeps CY and AC. -/
def Obligations.AddEightAndResultFlags : Prop :=
  (∀ (a b : Byte) (cin : Bool),
    (add8 a b cin).res.toNat = (a.toNat + b.toNat + cin.toNat) % 256 ∧
    ((add8 a b cin).cy = true ↔ 255 < a.toNat + b.toNat + cin.toNat) ∧
    ((add8 a b cin).ac = true ↔ 15 < a.toNat % 16 + b.toNat % 16 + cin.toNat) ∧
    (add8 a b cin).cy = (a.toNat + b.toNat + cin.toNat).testBit 8 ∧
    (add8 a b cin).ac = (a ^^^ b ^^^ (add8 a b cin).res).getLsbD 4) ∧
  (∀ (f : Flags) (v : Byte), (parity v = true ↔ setBits v % 2 = 0) ∧ ResultFlags (f.setZSP v) v ∧
    (f.setZSP v).cy = f.cy ∧ (f.setZSP v).ac = f.ac)

/-- R152: `Sub8` and the equivalent forms the rule gives; both flags are borrows. (AC as the borrow out of bit 3 is decision D8;
log entry 5.) -/
def Obligations.SubEightBorrows : Prop :=
  ∀ (a b : Byte) (bin : Bool),
    SubtractionFlags (Flags.ofAlu (sub8 a b bin)) a b bin (sub8 a b bin).res ∧
    (sub8 a b bin).cy = decide (a.toNat < b.toNat + bin.toNat) ∧
    (sub8 a b bin).ac = (a ^^^ b ^^^ (sub8 a b bin).res).getLsbD 4

/-! ### Logic, carry, rotates -/

/-- R190 to R198, R206: ANA, ANI, XRA, XRI, ORA, ORI clear CY and AC. Constructors anaB to anaA with anaM, ani, xraB to xraA
with xraM, xri, oraB to oraA with oraM, ori. (decision D1, log entry 5; history: log entry 4.) -/
def Obligations.LogicalOperationsClearCarries : Prop :=
  (∀ (src : Operand8) (s : State),
    (encode (aluOf .ana src) = [0b10100#5 ++ operandCode src] ∧
      CombinesWithA (aluOf .ana src) and (operandValue src s) (operandBus src s) s) ∧
    (encode (aluOf .xra src) = [0b10101#5 ++ operandCode src] ∧
      CombinesWithA (aluOf .xra src) xor (operandValue src s) (operandBus src s) s) ∧
    (encode (aluOf .ora src) = [0b10110#5 ++ operandCode src] ∧
      CombinesWithA (aluOf .ora src) or (operandValue src s) (operandBus src s) s)) ∧
  (∀ (d8 : Byte) (s : State),
    (encode (.ani d8) = [0xE6, d8] ∧ CombinesWithA (.ani d8) and d8 [] s) ∧
    (encode (.xri d8) = [0xEE, d8] ∧ CombinesWithA (.xri d8) xor d8 [] s) ∧
    (encode (.ori d8) = [0xF6, d8] ∧ CombinesWithA (.ori d8) or d8 [] s))

/-- R199, R200, R201: CMA complements A and writes no flag; STC sets and CMC complements CY and they write nothing else;
two CMAs restore A, two CMCs restore CY. (decisions D1, D10, log entry 5.) -/
def Obligations.CmaStcCmcEffects : Prop :=
  ∀ s : State,
    (encode .cma = [0x2F] ∧ ∃ t, exec .cma s = .next t ∧ t.regs.a.toNat = 255 - s.regs.a.toNat ∧
      t = { s with regs := { s.regs with a := t.regs.a } } ∧ exec .cma t = .next s) ∧
    (encode .stc = [0x37] ∧ exec .stc s = .next { s with flags := { s.flags with cy := true } }) ∧
    (encode .cmc = [0x3F] ∧ ∃ t, exec .cmc s = .next t ∧
      t = { s with flags := { s.flags with cy := !s.flags.cy } } ∧ exec .cmc t = .next s)

/-- R202 to R205, R207: the four rotates of A; the new CY is the bit that left A, no other flag is written.
RAR undoes RAL exactly, RRC undoes RLC on A. (decisions D1, D10, log entry 5.) -/
def Obligations.RotatesMoveOneBit : Prop :=
  ∀ s : State,
    (encode .rlc = [0x07] ∧ ∃ t, exec .rlc s = .next t ∧
      t.regs.a.toNat = 2 * s.regs.a.toNat % 256 + s.regs.a.toNat / 128 ∧ (t.flags.cy = true ↔ 128 ≤ s.regs.a.toNat) ∧
      t = { s with regs := { s.regs with a := t.regs.a }, flags := { s.flags with cy := t.flags.cy } } ∧
      ∃ u, exec .rrc t = .next u ∧ u.regs = s.regs) ∧
    (encode .rrc = [0x0F] ∧ ∃ t, exec .rrc s = .next t ∧
      t.regs.a.toNat = s.regs.a.toNat / 2 + 128 * (s.regs.a.toNat % 2) ∧ (t.flags.cy = true ↔ s.regs.a.toNat % 2 = 1) ∧
      t = { s with regs := { s.regs with a := t.regs.a }, flags := { s.flags with cy := t.flags.cy } }) ∧
    (encode .ral = [0x17] ∧ ∃ t, exec .ral s = .next t ∧
      t.regs.a.toNat = 2 * s.regs.a.toNat % 256 + s.flags.cy.toNat ∧ (t.flags.cy = true ↔ 128 ≤ s.regs.a.toNat) ∧
      t = { s with regs := { s.regs with a := t.regs.a }, flags := { s.flags with cy := t.flags.cy } } ∧
      exec .rar t = .next s) ∧
    (encode .rar = [0x1F] ∧ ∃ t, exec .rar s = .next t ∧
      t.regs.a.toNat = s.regs.a.toNat / 2 + 128 * s.flags.cy.toNat ∧ (t.flags.cy = true ↔ s.regs.a.toNat % 2 = 1) ∧
      t = { s with regs := { s.regs with a := t.regs.a }, flags := { s.flags with cy := t.flags.cy } })

/-! ### Branches -/

/-- R221, R249, R250: JMP, its duplicate 0xCB, PCHL. (decision D1, log entry 5.) -/
def Obligations.JumpsGoToTheirTarget : Prop :=
  ∀ (a16 : Word) (s : State),
    (encode (.jmp a16) = [0xC3, loByte a16, hiByte a16] ∧ exec (.jmp a16) s = .next { s with pc := a16 }) ∧
    (encode (.jmpCB a16) = [0xCB, loByte a16, hiByte a16] ∧ exec (.jmpCB a16) s = .next { s with pc := a16 }) ∧
    (encode .pchl = [0xE9] ∧ exec .pchl s = .next { s with pc := wordOf s.regs.h s.regs.l })

/-- R222 to R229: the eight conditional jumps, taken and not taken. (decisions D1, D14, log entry 5.) -/
def Obligations.ConditionalJumpsTestTheirFlag : Prop :=
  ∀ (a16 : Word) (s : State),
    (encode (.jnz a16) = [0xC2, loByte a16, hiByte a16] ∧
      exec (.jnz a16) s = .next (if s.flags.z = false then { s with pc := a16 } else s)) ∧
    (encode (.jz a16) = [0xCA, loByte a16, hiByte a16] ∧
      exec (.jz a16) s = .next (if s.flags.z = true then { s with pc := a16 } else s)) ∧
    (encode (.jnc a16) = [0xD2, loByte a16, hiByte a16] ∧
      exec (.jnc a16) s = .next (if s.flags.cy = false then { s with pc := a16 } else s)) ∧
    (encode (.jc a16) = [0xDA, loByte a16, hiByte a16] ∧
      exec (.jc a16) s = .next (if s.flags.cy = true then { s with pc := a16 } else s)) ∧
    (encode (.jpo a16) = [0xE2, loByte a16, hiByte a16] ∧
      exec (.jpo a16) s = .next (if s.flags.p = false then { s with pc := a16 } else s)) ∧
    (encode (.jpe a16) = [0xEA, loByte a16, hiByte a16] ∧
      exec (.jpe a16) s = .next (if s.flags.p = true then { s with pc := a16 } else s)) ∧
    (encode (.jp a16) = [0xF2, loByte a16, hiByte a16] ∧
      exec (.jp a16) s = .next (if s.flags.s = false then { s with pc := a16 } else s)) ∧
    (encode (.jm a16) = [0xFA, loByte a16, hiByte a16] ∧
      exec (.jm a16) s = .next (if s.flags.s = true then { s with pc := a16 } else s))

/-- R230, R252: CALL and its duplicates 0xDD, 0xED, 0xFD push the address of the next instruction and jump.
(decisions D1, D6, log entry 5; the order of the two transactions: D7, log entry 4.) -/
def Obligations.CallsPushReturnAddressAndJump : Prop :=
  ∀ (a16 : Word) (s : State),
    (encode (.call a16) = [0xCD, loByte a16, hiByte a16] ∧ PushesAndGoesTo (.call a16) s.pc a16 s) ∧
    (encode (.callDD a16) = [0xDD, loByte a16, hiByte a16] ∧ PushesAndGoesTo (.callDD a16) s.pc a16 s) ∧
    (encode (.callED a16) = [0xED, loByte a16, hiByte a16] ∧ PushesAndGoesTo (.callED a16) s.pc a16 s) ∧
    (encode (.callFD a16) = [0xFD, loByte a16, hiByte a16] ∧ PushesAndGoesTo (.callFD a16) s.pc a16 s)

/-- R231 to R238: the eight conditional calls, taken and not taken.
(decisions D1, D6, D14, log entry 5; the order of the two transactions: D7, log entry 4.) -/
def Obligations.ConditionalCallsTestTheirFlag : Prop :=
  ∀ (a16 : Word) (s : State),
    (encode (.cnz a16) = [0xC4, loByte a16, hiByte a16] ∧
      if s.flags.z = false then PushesAndGoesTo (.cnz a16) s.pc a16 s else ChangesNothing (.cnz a16) s) ∧
    (encode (.cz a16) = [0xCC, loByte a16, hiByte a16] ∧
      if s.flags.z = true then PushesAndGoesTo (.cz a16) s.pc a16 s else ChangesNothing (.cz a16) s) ∧
    (encode (.cnc a16) = [0xD4, loByte a16, hiByte a16] ∧
      if s.flags.cy = false then PushesAndGoesTo (.cnc a16) s.pc a16 s else ChangesNothing (.cnc a16) s) ∧
    (encode (.cc a16) = [0xDC, loByte a16, hiByte a16] ∧
      if s.flags.cy = true then PushesAndGoesTo (.cc a16) s.pc a16 s else ChangesNothing (.cc a16) s) ∧
    (encode (.cpo a16) = [0xE4, loByte a16, hiByte a16] ∧
      if s.flags.p = false then PushesAndGoesTo (.cpo a16) s.pc a16 s else ChangesNothing (.cpo a16) s) ∧
    (encode (.cpe a16) = [0xEC, loByte a16, hiByte a16] ∧
      if s.flags.p = true then PushesAndGoesTo (.cpe a16) s.pc a16 s else ChangesNothing (.cpe a16) s) ∧
    (encode (.cp a16) = [0xF4, loByte a16, hiByte a16] ∧
      if s.flags.s = false then PushesAndGoesTo (.cp a16) s.pc a16 s else ChangesNothing (.cp a16) s) ∧
    (encode (.cm a16) = [0xFC, loByte a16, hiByte a16] ∧
      if s.flags.s = true then PushesAndGoesTo (.cm a16) s.pc a16 s else ChangesNothing (.cm a16) s)

/-- R239, R251: RET and its duplicate 0xD9 pop PC.
(decisions D1, D6, log entry 5; the order of the two transactions: D7, log entry 4.) -/
def Obligations.ReturnsPopPc : Prop :=
  ∀ s : State, (encode .ret = [0xC9] ∧ PopsPc .ret s) ∧ (encode .retD9 = [0xD9] ∧ PopsPc .retD9 s)

/-- R240 to R247: the eight conditional returns, taken and not taken.
(decisions D1, D6, D14, log entry 5; the order of the two transactions: D7, log entry 4.) -/
def Obligations.ConditionalReturnsTestTheirFlag : Prop :=
  ∀ s : State,
    (encode .rnz = [0xC0] ∧ if s.flags.z = false then PopsPc .rnz s else ChangesNothing .rnz s) ∧
    (encode .rz = [0xC8] ∧ if s.flags.z = true then PopsPc .rz s else ChangesNothing .rz s) ∧
    (encode .rnc = [0xD0] ∧ if s.flags.cy = false then PopsPc .rnc s else ChangesNothing .rnc s) ∧
    (encode .rc = [0xD8] ∧ if s.flags.cy = true then PopsPc .rc s else ChangesNothing .rc s) ∧
    (encode .rpo = [0xE0] ∧ if s.flags.p = false then PopsPc .rpo s else ChangesNothing .rpo s) ∧
    (encode .rpe = [0xE8] ∧ if s.flags.p = true then PopsPc .rpe s else ChangesNothing .rpe s) ∧
    (encode .rp = [0xF0] ∧ if s.flags.s = false then PopsPc .rp s else ChangesNothing .rp s) ∧
    (encode .rm = [0xF8] ∧ if s.flags.s = true then PopsPc .rm s else ChangesNothing .rm s)

/-- R248: RST n pushes the address of the next instruction and goes to 8 n; INTE and the flags keep their values.
Constructors rst0 to rst7. (decisions D1, D6, D25, log entry 5; the order of the two transactions: D7, log entry 4.) -/
def Obligations.RstCallsItsFixedAddress : Prop :=
  ∀ (n : BitVec 3) (s : State),
    encode (rstOf n) = [0b11#2 ++ n ++ 0b111#3] ∧
    PushesAndGoesTo (rstOf n) s.pc (BitVec.ofNat 16 (8 * n.toNat)) s

/-- R230, S6: a CALL followed later by a RET restores PC to the instruction after the CALL and SP to its value before,
provided the two stack bytes and SP are then as the CALL left them. (decision D6, log entry 5.) -/
def Obligations.CallThenReturnComesBack : Prop :=
  ∀ (a16 : Word) (s t u : State), exec (.call a16) s = .next t → u.sp = t.sp →
    u.mem.read t.sp = t.mem.read t.sp → u.mem.read (t.sp + 1) = t.mem.read (t.sp + 1) →
    ∃ v, exec .ret u = .next v ∧ v.pc = s.pc ∧ v.sp = s.sp

/-! ### Stack -/

/-- R271, R272: PUSH rp and PUSH PSW. Constructors pushB, pushD, pushH, pushPsw.
(decisions D1, D3, D4, D6, D26, log entries 2 and 5; the order of the two transactions: D7, log entry 4.) -/
def Obligations.PushStoresHighThenLow : Prop :=
  ∀ s : State,
    (encode .pushB = [0xC5] ∧ PushesAndGoesTo .pushB (wordOf s.regs.b s.regs.c) s.pc s) ∧
    (encode .pushD = [0xD5] ∧ PushesAndGoesTo .pushD (wordOf s.regs.d s.regs.e) s.pc s) ∧
    (encode .pushH = [0xE5] ∧ PushesAndGoesTo .pushH (wordOf s.regs.h s.regs.l) s.pc s) ∧
    (encode .pushPsw = [0xF5] ∧ PushesAndGoesTo .pushPsw (wordOf s.regs.a s.flags.byte) s.pc s)

/-- R273, R274: POP rp and POP PSW. Constructors popB, popD, popH, popPsw. Bits 5, 3 and 1 of the popped Flags byte are
dropped. (decisions D1, D3, D4, D6, D26, log entries 2 and 5; the order of the two transactions: D7, log entry 4.) -/
def Obligations.PopLoadsLowThenHigh : Prop :=
  ∀ s : State,
    (encode .popB = [0xC1] ∧ exec .popB s = .next { s with
      regs := { s.regs with c := s.mem.read s.sp, b := s.mem.read (s.sp + 1) }
      sp := s.sp + 2, bus := s.bus ++ wordReads s s.sp }) ∧
    (encode .popD = [0xD1] ∧ exec .popD s = .next { s with
      regs := { s.regs with e := s.mem.read s.sp, d := s.mem.read (s.sp + 1) }
      sp := s.sp + 2, bus := s.bus ++ wordReads s s.sp }) ∧
    (encode .popH = [0xE1] ∧ exec .popH s = .next { s with
      regs := { s.regs with l := s.mem.read s.sp, h := s.mem.read (s.sp + 1) }
      sp := s.sp + 2, bus := s.bus ++ wordReads s s.sp }) ∧
    (encode .popPsw = [0xF1] ∧ ∃ t, exec .popPsw s = .next t ∧
      t.regs.a = s.mem.read (s.sp + 1) ∧ t.flags.byte = (s.mem.read s.sp &&& 0xD5) ||| Config.flagsFixed ∧
      t.flags.s = (s.mem.read s.sp).getLsbD 7 ∧ t.flags.z = (s.mem.read s.sp).getLsbD 6 ∧
      t.flags.ac = (s.mem.read s.sp).getLsbD 4 ∧ t.flags.p = (s.mem.read s.sp).getLsbD 2 ∧
      t.flags.cy = (s.mem.read s.sp).getLsbD 0 ∧
      t = { s with
        regs := { s.regs with a := t.regs.a }
        flags := t.flags
        sp := s.sp + 2
        bus := s.bus ++ wordReads s s.sp })

/-- R80, R81, S4: PUSH of a pair or PSW, then POP of the same, restores the registers, the five flags and SP, for every
value and every SP, whatever those registers and flags held in between. (decisions D3, D4, D6, D26, log entries 2 and 5.) -/
def Obligations.PushThenPopRestores : Prop :=
  ∀ (p : StackPair) (s t u : State), exec (pushOf p) s = .next t →
    u.sp = t.sp → u.mem = t.mem →
    ∃ v, exec (popOf p) u = .next v ∧ v.sp = s.sp ∧
      (match p with
        | .bc => v.pair .bc = s.pair .bc
        | .de => v.pair .de = s.pair .de
        | .hl => v.pair .hl = s.pair .hl
        | .psw => v.regs.a = s.regs.a ∧ v.flags = s.flags)

/-- R275: XTHL swaps HL with the word at SP; both reads precede both writes; SP is unchanged; two restore HL and every
byte of memory. (decisions D1, D27, log entry 5; the order of the two transactions: D7, log entry 4.) -/
def Obligations.XthlSwapsHlWithStackTop : Prop :=
  ∀ s : State, encode .xthl = [0xE3] ∧
    ∃ t, exec .xthl s = .next t ∧
      (∀ x, t.mem.read x = if x = s.sp then s.regs.l else if x = s.sp + 1 then s.regs.h else s.mem.read x) ∧
      t = { s with
        regs := { s.regs with l := s.mem.read s.sp, h := s.mem.read (s.sp + 1) }
        mem := t.mem
        bus := s.bus ++ wordReads s s.sp ++ [.memWrite s.sp s.regs.l, .memWrite (s.sp + 1) s.regs.h] } ∧
      ∃ u, exec .xthl t = .next u ∧ u.regs = s.regs ∧ u.sp = s.sp ∧ ∀ x, u.mem.read x = s.mem.read x

/-- R276: SPHL. (decision D1, log entry 5.) -/
def Obligations.SphlCopiesHlToSp : Prop :=
  ∀ s : State, encode .sphl = [0xF9] ∧ exec .sphl s = .next { s with sp := wordOf s.regs.h s.regs.l }

/-! ### Control and input/output -/

/-- R290: HLT sets HALTED and changes nothing else; run by a step, PC rests one past it, and the next step changes nothing;
`reset` clears HALTED and `load` changes memory while halted. -/
def Obligations.HltHaltsOnePastItself : Prop :=
  (∀ s : State, encode .hlt = [0x76] ∧ exec .hlt s = .next { s with halted := true }) ∧
  (∀ s : State, s.halted = false → s.mem.read s.pc = 0x76 →
    ∃ t, step s = .next t ∧ t.pc = s.pc + 1 ∧ t.halted = true ∧ step t = .next t) ∧
  (∀ (bytes : List Byte) (base : Word) (s : State), s.halted = true →
    (hostLoad bytes base s).mem = s.mem.load bytes base ∧ (hostReset s).halted = false)

/-- R291 to R294: NOP, its five aliases, RIM and SIM change nothing. Constructors nop, nop08, nop10, nop18, nop28, nop38,
rim, sim. (decisions D1, D2, log entry 5.) -/
def Obligations.NopsRimAndSimChangeNothing : Prop :=
  ∀ s : State,
    (encode .nop = [0x00] ∧ ChangesNothing .nop s) ∧ (encode .nop08 = [0x08] ∧ ChangesNothing .nop08 s) ∧
    (encode .nop10 = [0x10] ∧ ChangesNothing .nop10 s) ∧ (encode .nop18 = [0x18] ∧ ChangesNothing .nop18 s) ∧
    (encode .nop28 = [0x28] ∧ ChangesNothing .nop28 s) ∧ (encode .nop38 = [0x38] ∧ ChangesNothing .nop38 s) ∧
    (encode .rim = [0x20] ∧ ChangesNothing .rim s) ∧ (encode .sim = [0x30] ∧ ChangesNothing .sim s)

/-- R295, R296: EI sets INTE, DI clears it, at once and nothing else. (decisions D1, D15, log entry 5.) -/
def Obligations.EiAndDiWriteInte : Prop :=
  ∀ s : State, (encode .ei = [0xFB] ∧ exec .ei s = .next { s with inte := true }) ∧
    (encode .di = [0xF3] ∧ exec .di s = .next { s with inte := false })

/-- R77, R297, R298: IN puts the byte the host answers in A, with exactly one port read; OUT delivers A, with exactly one
port write; neither touches a flag or memory. The byte IN gets is a free value (log entry 3).
(decisions D1, D11, D21, log entry 5; history: log entry 4.) -/
def Obligations.InAndOutMakeOnePortTransaction : Prop :=
  ∀ (d8 : Byte) (s : State),
    (encode (.inPort d8) = [0xDB, d8] ∧ ∃ t, exec (.inPort d8) s = .next t ∧
      t.regs.a = Config.portIn d8 s.portReads ∧
      t = { s with
        regs := { s.regs with a := t.regs.a }
        bus := s.bus ++ [.portIn d8 t.regs.a]
        portReads := s.portReads + 1 } ∧
      t.ioTrace = s.ioTrace ++ [.portIn d8 t.regs.a]) ∧
    (encode (.outPort d8) = [0xD3, d8] ∧ ∃ t, exec (.outPort d8) s = .next t ∧
      t = { s with bus := s.bus ++ [.portOut d8 s.regs.a] } ∧
      t.ioTrace = s.ioTrace ++ [.portOut d8 s.regs.a])
end

