-- ==== Sys2Proof/Laws/Memory.lean ====
section
/-! SUPPORT. The laws of memory: what a read after a write gives, and that every operation keeps the canonical form. -/

namespace Sys2Proof.Machine

/-! ### Read after write -/

theorem Memory.written_insert (m : Memory) (a b : Nat) (v : Byte) :
    Memory.written (Memory.insert m a v) b = if b = a then some v else Memory.written m b := by
  induction m with
  | nil => rfl
  | cons cell m ih =>
    obtain ⟨k, x⟩ := cell
    by_cases hlt : a < k
    · simp [Memory.insert, hlt, Memory.written]
    · by_cases heq : a = k
      · subst heq
        by_cases hb : b = a <;> simp [Memory.insert, Memory.written, hb]
      · by_cases hb : b = k
        · subst hb
          simp [Memory.insert, hlt, heq, Memory.written, Ne.symm heq]
        · simp [Memory.insert, hlt, heq, Memory.written, hb, ih]

/-- A read after a write: the value written at its own address, the old value everywhere else (20_memory.md R61). -/
theorem Memory.read_write (m : Memory) (a b : Word) (v : Byte) :
    (m.write a v).read b = if b = a then v else m.read b := by
  by_cases h : b = a
  · simp [Memory.write, Memory.read, Memory.written_insert, h]
  · have : b.toNat ≠ a.toNat := fun hn => h (BitVec.eq_of_toNat_eq hn)
    simp [Memory.write, Memory.read, Memory.written_insert, h, this]

@[simp] theorem Memory.read_write_self (m : Memory) (a : Word) (v : Byte) : (m.write a v).read a = v := by
  simp [Memory.read_write]

theorem Memory.read_write_other (m : Memory) {a b : Word} (v : Byte) (h : b ≠ a) :
    (m.write a v).read b = m.read b := by
  simp [Memory.read_write, h]

/-- An address that nothing has written reads as MEM_INIT (R43). -/
@[simp] theorem Memory.read_nil (a : Word) : Memory.read [] a = Config.memInit a := rfl

/-! ### The canonical form -/

theorem Memory.wfFrom_mono {lo hi : Nat} (h : lo ≤ hi) {m : Memory} (hm : Memory.wfFrom hi m = true) :
    Memory.wfFrom lo m = true := by
  cases m with
  | nil => rfl
  | cons cell m =>
    simp only [Memory.wfFrom, Bool.and_eq_true, decide_eq_true_eq] at hm ⊢
    exact ⟨⟨h.trans hm.1.1, hm.1.2⟩, hm.2⟩

theorem Memory.wfFrom_insert {lo : Nat} {m : Memory} (hm : Memory.wfFrom lo m = true) {a : Nat} (v : Byte)
    (hlo : lo ≤ a) (ha : a < 65536) : Memory.wfFrom lo (Memory.insert m a v) = true := by
  induction m generalizing lo with
  | nil => simp [Memory.insert, Memory.wfFrom, hlo, ha]
  | cons cell m ih =>
    obtain ⟨k, x⟩ := cell
    simp only [Memory.wfFrom, Bool.and_eq_true, decide_eq_true_eq] at hm
    by_cases hlt : a < k
    · simp only [Memory.insert, hlt, if_true, Memory.wfFrom, Bool.and_eq_true, decide_eq_true_eq]
      exact ⟨⟨hlo, ha⟩, ⟨hlt, hm.1.2⟩, hm.2⟩
    · by_cases heq : a = k
      · subst heq
        simpa [Memory.insert, Memory.wfFrom, ha, hlo] using hm.2
      · simp only [Memory.insert, hlt, heq, if_false, Memory.wfFrom, Bool.and_eq_true, decide_eq_true_eq]
        exact ⟨hm.1, ih hm.2 (by omega)⟩

/-- A write keeps the canonical form. -/
theorem Memory.wf_write {m : Memory} (hm : m.wf = true) (a : Word) (v : Byte) : (m.write a v).wf = true :=
  Memory.wfFrom_insert hm v (Nat.zero_le _) a.isLt

/-- A load keeps the canonical form. -/
theorem Memory.wf_load {m : Memory} (hm : m.wf = true) (bytes : List Byte) (base : Word) :
    (m.load bytes base).wf = true := by
  induction bytes generalizing m base with
  | nil => exact hm
  | cons v rest ih => exact ih (Memory.wf_write hm base v) (base + 1)

/-- The memory of the reset state has the canonical form. -/
theorem Memory.wf_reset : State.reset.mem.wf = true := rfl

/-- Writing a program word at PC keeps the canonical form. -/
theorem State.wf_withFetchWord {s : State} (hm : s.mem.wf = true) (nbits w : Nat) :
    (s.withFetchWord nbits w).mem.wf = true :=
  Memory.wf_write (Memory.wf_write (Memory.wf_write hm _ _) _ _) _ _

end Sys2Proof.Machine
end

