-- ==== Sys2Proof/Laws/State.lean ====
section
/-! SUPPORT. One lemma per field of State and per named update, so that no proof unfolds a record update. -/

namespace Sys2Proof.Machine

variable (s : State)

/-! ### `record` -/

@[simp] theorem State.record_regs (es : List BusEvent) : (s.record es).regs = s.regs := rfl
@[simp] theorem State.record_sp (es : List BusEvent) : (s.record es).sp = s.sp := rfl
@[simp] theorem State.record_pc (es : List BusEvent) : (s.record es).pc = s.pc := rfl
@[simp] theorem State.record_flags (es : List BusEvent) : (s.record es).flags = s.flags := rfl
@[simp] theorem State.record_wLatch (es : List BusEvent) : (s.record es).wLatch = s.wLatch := rfl
@[simp] theorem State.record_zLatch (es : List BusEvent) : (s.record es).zLatch = s.zLatch := rfl
@[simp] theorem State.record_ir (es : List BusEvent) : (s.record es).ir = s.ir := rfl
@[simp] theorem State.record_inte (es : List BusEvent) : (s.record es).inte = s.inte := rfl
@[simp] theorem State.record_halted (es : List BusEvent) : (s.record es).halted = s.halted := rfl
@[simp] theorem State.record_mem (es : List BusEvent) : (s.record es).mem = s.mem := rfl
@[simp] theorem State.record_bus (es : List BusEvent) : (s.record es).bus = s.bus ++ es := rfl
@[simp] theorem State.record_portReads (es : List BusEvent) : (s.record es).portReads = s.portReads := rfl

/-! ### `setPc` -/

@[simp] theorem State.setPc_regs (v : Word) : (s.setPc v).regs = s.regs := rfl
@[simp] theorem State.setPc_sp (v : Word) : (s.setPc v).sp = s.sp := rfl
@[simp] theorem State.setPc_pc (v : Word) : (s.setPc v).pc = v := rfl
@[simp] theorem State.setPc_flags (v : Word) : (s.setPc v).flags = s.flags := rfl
@[simp] theorem State.setPc_wLatch (v : Word) : (s.setPc v).wLatch = s.wLatch := rfl
@[simp] theorem State.setPc_zLatch (v : Word) : (s.setPc v).zLatch = s.zLatch := rfl
@[simp] theorem State.setPc_ir (v : Word) : (s.setPc v).ir = s.ir := rfl
@[simp] theorem State.setPc_inte (v : Word) : (s.setPc v).inte = s.inte := rfl
@[simp] theorem State.setPc_halted (v : Word) : (s.setPc v).halted = s.halted := rfl
@[simp] theorem State.setPc_mem (v : Word) : (s.setPc v).mem = s.mem := rfl
@[simp] theorem State.setPc_bus (v : Word) : (s.setPc v).bus = s.bus := rfl
@[simp] theorem State.setPc_portReads (v : Word) : (s.setPc v).portReads = s.portReads := rfl

/-! ### `setSp` -/

@[simp] theorem State.setSp_regs (v : Word) : (s.setSp v).regs = s.regs := rfl
@[simp] theorem State.setSp_sp (v : Word) : (s.setSp v).sp = v := rfl
@[simp] theorem State.setSp_pc (v : Word) : (s.setSp v).pc = s.pc := rfl
@[simp] theorem State.setSp_flags (v : Word) : (s.setSp v).flags = s.flags := rfl
@[simp] theorem State.setSp_wLatch (v : Word) : (s.setSp v).wLatch = s.wLatch := rfl
@[simp] theorem State.setSp_zLatch (v : Word) : (s.setSp v).zLatch = s.zLatch := rfl
@[simp] theorem State.setSp_ir (v : Word) : (s.setSp v).ir = s.ir := rfl
@[simp] theorem State.setSp_inte (v : Word) : (s.setSp v).inte = s.inte := rfl
@[simp] theorem State.setSp_halted (v : Word) : (s.setSp v).halted = s.halted := rfl
@[simp] theorem State.setSp_mem (v : Word) : (s.setSp v).mem = s.mem := rfl
@[simp] theorem State.setSp_bus (v : Word) : (s.setSp v).bus = s.bus := rfl
@[simp] theorem State.setSp_portReads (v : Word) : (s.setSp v).portReads = s.portReads := rfl

/-! ### `setFlags` -/

@[simp] theorem State.setFlags_regs (f : Flags) : (s.setFlags f).regs = s.regs := rfl
@[simp] theorem State.setFlags_sp (f : Flags) : (s.setFlags f).sp = s.sp := rfl
@[simp] theorem State.setFlags_pc (f : Flags) : (s.setFlags f).pc = s.pc := rfl
@[simp] theorem State.setFlags_flags (f : Flags) : (s.setFlags f).flags = f := rfl
@[simp] theorem State.setFlags_wLatch (f : Flags) : (s.setFlags f).wLatch = s.wLatch := rfl
@[simp] theorem State.setFlags_zLatch (f : Flags) : (s.setFlags f).zLatch = s.zLatch := rfl
@[simp] theorem State.setFlags_ir (f : Flags) : (s.setFlags f).ir = s.ir := rfl
@[simp] theorem State.setFlags_inte (f : Flags) : (s.setFlags f).inte = s.inte := rfl
@[simp] theorem State.setFlags_halted (f : Flags) : (s.setFlags f).halted = s.halted := rfl
@[simp] theorem State.setFlags_mem (f : Flags) : (s.setFlags f).mem = s.mem := rfl
@[simp] theorem State.setFlags_bus (f : Flags) : (s.setFlags f).bus = s.bus := rfl
@[simp] theorem State.setFlags_portReads (f : Flags) : (s.setFlags f).portReads = s.portReads := rfl

/-! ### `setRegs` -/

@[simp] theorem State.setRegs_regs (r : Regs) : (s.setRegs r).regs = r := rfl
@[simp] theorem State.setRegs_sp (r : Regs) : (s.setRegs r).sp = s.sp := rfl
@[simp] theorem State.setRegs_pc (r : Regs) : (s.setRegs r).pc = s.pc := rfl
@[simp] theorem State.setRegs_flags (r : Regs) : (s.setRegs r).flags = s.flags := rfl
@[simp] theorem State.setRegs_wLatch (r : Regs) : (s.setRegs r).wLatch = s.wLatch := rfl
@[simp] theorem State.setRegs_zLatch (r : Regs) : (s.setRegs r).zLatch = s.zLatch := rfl
@[simp] theorem State.setRegs_ir (r : Regs) : (s.setRegs r).ir = s.ir := rfl
@[simp] theorem State.setRegs_inte (r : Regs) : (s.setRegs r).inte = s.inte := rfl
@[simp] theorem State.setRegs_halted (r : Regs) : (s.setRegs r).halted = s.halted := rfl
@[simp] theorem State.setRegs_mem (r : Regs) : (s.setRegs r).mem = s.mem := rfl
@[simp] theorem State.setRegs_bus (r : Regs) : (s.setRegs r).bus = s.bus := rfl
@[simp] theorem State.setRegs_portReads (r : Regs) : (s.setRegs r).portReads = s.portReads := rfl

/-! ### `setInte` -/

@[simp] theorem State.setInte_regs (v : Bool) : (s.setInte v).regs = s.regs := rfl
@[simp] theorem State.setInte_sp (v : Bool) : (s.setInte v).sp = s.sp := rfl
@[simp] theorem State.setInte_pc (v : Bool) : (s.setInte v).pc = s.pc := rfl
@[simp] theorem State.setInte_flags (v : Bool) : (s.setInte v).flags = s.flags := rfl
@[simp] theorem State.setInte_wLatch (v : Bool) : (s.setInte v).wLatch = s.wLatch := rfl
@[simp] theorem State.setInte_zLatch (v : Bool) : (s.setInte v).zLatch = s.zLatch := rfl
@[simp] theorem State.setInte_ir (v : Bool) : (s.setInte v).ir = s.ir := rfl
@[simp] theorem State.setInte_inte (v : Bool) : (s.setInte v).inte = v := rfl
@[simp] theorem State.setInte_halted (v : Bool) : (s.setInte v).halted = s.halted := rfl
@[simp] theorem State.setInte_mem (v : Bool) : (s.setInte v).mem = s.mem := rfl
@[simp] theorem State.setInte_bus (v : Bool) : (s.setInte v).bus = s.bus := rfl
@[simp] theorem State.setInte_portReads (v : Bool) : (s.setInte v).portReads = s.portReads := rfl

/-! ### `setHalted` -/

@[simp] theorem State.setHalted_regs (v : Bool) : (s.setHalted v).regs = s.regs := rfl
@[simp] theorem State.setHalted_sp (v : Bool) : (s.setHalted v).sp = s.sp := rfl
@[simp] theorem State.setHalted_pc (v : Bool) : (s.setHalted v).pc = s.pc := rfl
@[simp] theorem State.setHalted_flags (v : Bool) : (s.setHalted v).flags = s.flags := rfl
@[simp] theorem State.setHalted_wLatch (v : Bool) : (s.setHalted v).wLatch = s.wLatch := rfl
@[simp] theorem State.setHalted_zLatch (v : Bool) : (s.setHalted v).zLatch = s.zLatch := rfl
@[simp] theorem State.setHalted_ir (v : Bool) : (s.setHalted v).ir = s.ir := rfl
@[simp] theorem State.setHalted_inte (v : Bool) : (s.setHalted v).inte = s.inte := rfl
@[simp] theorem State.setHalted_halted (v : Bool) : (s.setHalted v).halted = v := rfl
@[simp] theorem State.setHalted_mem (v : Bool) : (s.setHalted v).mem = s.mem := rfl
@[simp] theorem State.setHalted_bus (v : Bool) : (s.setHalted v).bus = s.bus := rfl
@[simp] theorem State.setHalted_portReads (v : Bool) : (s.setHalted v).portReads = s.portReads := rfl

/-! ### `setMem` -/

@[simp] theorem State.setMem_regs (m : Memory) : (s.setMem m).regs = s.regs := rfl
@[simp] theorem State.setMem_sp (m : Memory) : (s.setMem m).sp = s.sp := rfl
@[simp] theorem State.setMem_pc (m : Memory) : (s.setMem m).pc = s.pc := rfl
@[simp] theorem State.setMem_flags (m : Memory) : (s.setMem m).flags = s.flags := rfl
@[simp] theorem State.setMem_wLatch (m : Memory) : (s.setMem m).wLatch = s.wLatch := rfl
@[simp] theorem State.setMem_zLatch (m : Memory) : (s.setMem m).zLatch = s.zLatch := rfl
@[simp] theorem State.setMem_ir (m : Memory) : (s.setMem m).ir = s.ir := rfl
@[simp] theorem State.setMem_inte (m : Memory) : (s.setMem m).inte = s.inte := rfl
@[simp] theorem State.setMem_halted (m : Memory) : (s.setMem m).halted = s.halted := rfl
@[simp] theorem State.setMem_mem (m : Memory) : (s.setMem m).mem = m := rfl
@[simp] theorem State.setMem_bus (m : Memory) : (s.setMem m).bus = s.bus := rfl
@[simp] theorem State.setMem_portReads (m : Memory) : (s.setMem m).portReads = s.portReads := rfl

/-! ### `setIr` -/

@[simp] theorem State.setIr_regs (v : Byte) : (s.setIr v).regs = s.regs := rfl
@[simp] theorem State.setIr_sp (v : Byte) : (s.setIr v).sp = s.sp := rfl
@[simp] theorem State.setIr_pc (v : Byte) : (s.setIr v).pc = s.pc := rfl
@[simp] theorem State.setIr_flags (v : Byte) : (s.setIr v).flags = s.flags := rfl
@[simp] theorem State.setIr_wLatch (v : Byte) : (s.setIr v).wLatch = s.wLatch := rfl
@[simp] theorem State.setIr_zLatch (v : Byte) : (s.setIr v).zLatch = s.zLatch := rfl
@[simp] theorem State.setIr_ir (v : Byte) : (s.setIr v).ir = v := rfl
@[simp] theorem State.setIr_inte (v : Byte) : (s.setIr v).inte = s.inte := rfl
@[simp] theorem State.setIr_halted (v : Byte) : (s.setIr v).halted = s.halted := rfl
@[simp] theorem State.setIr_mem (v : Byte) : (s.setIr v).mem = s.mem := rfl
@[simp] theorem State.setIr_bus (v : Byte) : (s.setIr v).bus = s.bus := rfl
@[simp] theorem State.setIr_portReads (v : Byte) : (s.setIr v).portReads = s.portReads := rfl

/-! ### `setZLatch` -/

@[simp] theorem State.setZLatch_regs (v : Byte) : (s.setZLatch v).regs = s.regs := rfl
@[simp] theorem State.setZLatch_sp (v : Byte) : (s.setZLatch v).sp = s.sp := rfl
@[simp] theorem State.setZLatch_pc (v : Byte) : (s.setZLatch v).pc = s.pc := rfl
@[simp] theorem State.setZLatch_flags (v : Byte) : (s.setZLatch v).flags = s.flags := rfl
@[simp] theorem State.setZLatch_wLatch (v : Byte) : (s.setZLatch v).wLatch = s.wLatch := rfl
@[simp] theorem State.setZLatch_zLatch (v : Byte) : (s.setZLatch v).zLatch = v := rfl
@[simp] theorem State.setZLatch_ir (v : Byte) : (s.setZLatch v).ir = s.ir := rfl
@[simp] theorem State.setZLatch_inte (v : Byte) : (s.setZLatch v).inte = s.inte := rfl
@[simp] theorem State.setZLatch_halted (v : Byte) : (s.setZLatch v).halted = s.halted := rfl
@[simp] theorem State.setZLatch_mem (v : Byte) : (s.setZLatch v).mem = s.mem := rfl
@[simp] theorem State.setZLatch_bus (v : Byte) : (s.setZLatch v).bus = s.bus := rfl
@[simp] theorem State.setZLatch_portReads (v : Byte) : (s.setZLatch v).portReads = s.portReads := rfl

/-! ### `setWLatch` -/

@[simp] theorem State.setWLatch_regs (v : Byte) : (s.setWLatch v).regs = s.regs := rfl
@[simp] theorem State.setWLatch_sp (v : Byte) : (s.setWLatch v).sp = s.sp := rfl
@[simp] theorem State.setWLatch_pc (v : Byte) : (s.setWLatch v).pc = s.pc := rfl
@[simp] theorem State.setWLatch_flags (v : Byte) : (s.setWLatch v).flags = s.flags := rfl
@[simp] theorem State.setWLatch_wLatch (v : Byte) : (s.setWLatch v).wLatch = v := rfl
@[simp] theorem State.setWLatch_zLatch (v : Byte) : (s.setWLatch v).zLatch = s.zLatch := rfl
@[simp] theorem State.setWLatch_ir (v : Byte) : (s.setWLatch v).ir = s.ir := rfl
@[simp] theorem State.setWLatch_inte (v : Byte) : (s.setWLatch v).inte = s.inte := rfl
@[simp] theorem State.setWLatch_halted (v : Byte) : (s.setWLatch v).halted = s.halted := rfl
@[simp] theorem State.setWLatch_mem (v : Byte) : (s.setWLatch v).mem = s.mem := rfl
@[simp] theorem State.setWLatch_bus (v : Byte) : (s.setWLatch v).bus = s.bus := rfl
@[simp] theorem State.setWLatch_portReads (v : Byte) : (s.setWLatch v).portReads = s.portReads := rfl

/-! ### `setReg` -/

@[simp] theorem State.setReg_regs (n : Reg8) (v : Byte) : (s.setReg n v).regs = s.regs.set n v := rfl
@[simp] theorem State.setReg_sp (n : Reg8) (v : Byte) : (s.setReg n v).sp = s.sp := rfl
@[simp] theorem State.setReg_pc (n : Reg8) (v : Byte) : (s.setReg n v).pc = s.pc := rfl
@[simp] theorem State.setReg_flags (n : Reg8) (v : Byte) : (s.setReg n v).flags = s.flags := rfl
@[simp] theorem State.setReg_wLatch (n : Reg8) (v : Byte) : (s.setReg n v).wLatch = s.wLatch := rfl
@[simp] theorem State.setReg_zLatch (n : Reg8) (v : Byte) : (s.setReg n v).zLatch = s.zLatch := rfl
@[simp] theorem State.setReg_ir (n : Reg8) (v : Byte) : (s.setReg n v).ir = s.ir := rfl
@[simp] theorem State.setReg_inte (n : Reg8) (v : Byte) : (s.setReg n v).inte = s.inte := rfl
@[simp] theorem State.setReg_halted (n : Reg8) (v : Byte) : (s.setReg n v).halted = s.halted := rfl
@[simp] theorem State.setReg_mem (n : Reg8) (v : Byte) : (s.setReg n v).mem = s.mem := rfl
@[simp] theorem State.setReg_bus (n : Reg8) (v : Byte) : (s.setReg n v).bus = s.bus := rfl
@[simp] theorem State.setReg_portReads (n : Reg8) (v : Byte) : (s.setReg n v).portReads = s.portReads := rfl

/-! ### Registers -/

/-- A register reads what was written last. -/
@[simp] theorem Regs.get_set_self (r : Regs) (n : Reg8) (v : Byte) : (r.set n v).get n = v := by
  cases n <;> rfl

/-- Writing a register leaves the others alone. -/
theorem Regs.get_set_other (r : Regs) {n k : Reg8} (v : Byte) (h : k ≠ n) : (r.set n v).get k = r.get k := by
  cases n <;> cases k <;> first | rfl | exact absurd rfl h

/-- Two register files with the same seven values are equal. -/
theorem Regs.ext_get {r t : Regs} (h : ∀ n, r.get n = t.get n) : r = t := by
  obtain ⟨_, _, _, _, _, _, _⟩ := r
  obtain ⟨_, _, _, _, _, _, _⟩ := t
  simp only [Regs.mk.injEq]
  exact ⟨h .b, h .c, h .d, h .e, h .h, h .l, h .a⟩

/-- Writing back the value a register holds changes nothing. -/
@[simp] theorem Regs.set_get (r : Regs) (n : Reg8) : r.set n (r.get n) = r := by
  cases n <;> rfl

end Sys2Proof.Machine
end

