-- ==== Sys2Proof/Laws/Ops.lean ====
section
/-! SUPPORT. One lemma per shared operation: everything it does, as one record update of the state it starts from. -/

namespace Sys2Proof.Machine

/-! ### Bytes and words -/

theorem wordOf_toNat (hi lo : Byte) : (wordOf hi lo).toNat = hi.toNat * 256 + lo.toNat := by
  have h : (hi.toNat <<< 8) ||| lo.toNat = hi.toNat * 256 + lo.toNat := by
    rw [← Nat.shiftLeft_add_eq_or_of_lt lo.isLt, Nat.shiftLeft_eq]
  exact (BitVec.toNat_append hi lo).trans h

theorem hiByte_toNat (w : Word) : (hiByte w).toNat = w.toNat / 256 := by
  have hw : w.toNat < 65536 := w.isLt
  simp only [hiByte, BitVec.extractLsb'_toNat, Nat.shiftRight_eq_div_pow]
  omega

theorem loByte_toNat (w : Word) : (loByte w).toNat = w.toNat % 256 := by
  simp [loByte, BitVec.extractLsb'_toNat]

@[simp] theorem hiByte_wordOf (hi lo : Byte) : hiByte (wordOf hi lo) = hi := by
  apply BitVec.eq_of_toNat_eq
  have := lo.isLt
  rw [hiByte_toNat, wordOf_toNat]
  omega

@[simp] theorem loByte_wordOf (hi lo : Byte) : loByte (wordOf hi lo) = lo := by
  apply BitVec.eq_of_toNat_eq
  have := lo.isLt
  rw [loByte_toNat, wordOf_toNat]
  omega

@[simp] theorem wordOf_hiByte_loByte (w : Word) : wordOf (hiByte w) (loByte w) = w := by
  apply BitVec.eq_of_toNat_eq
  rw [wordOf_toNat, hiByte_toNat, loByte_toNat]
  omega

/-! ### Pairs -/

/-- A pair reads the word written last: no half is lost (10_state.md R24). -/
@[simp] theorem State.pair_setPair_self (s : State) (p : Pair) (v : Word) : (s.setPair p v).pair p = v := by
  cases p <;> simp [State.setPair, State.pair]

/-- Writing a pair leaves the other pairs and SP alone. -/
theorem State.pair_setPair_other (s : State) {p q : Pair} (v : Word) (h : q ≠ p) :
    (s.setPair p v).pair q = s.pair q := by
  cases p <;> cases q <;> first | rfl | exact absurd rfl h

/-- A pair write changes general registers and SP only, never A. -/
theorem State.setPair_eq (s : State) (p : Pair) (v : Word) :
    s.setPair p v = { s with regs := (s.setPair p v).regs, sp := (s.setPair p v).sp } ∧
    (s.setPair p v).regs.a = s.regs.a := by
  cases p <;> exact ⟨rfl, rfl⟩

/-! ### Bus transactions -/

theorem memRead_eq (a : Word) (s : State) :
    memRead a s = (s.mem.read a, { s with bus := s.bus ++ [.memRead a (s.mem.read a)] }) := rfl

theorem memWrite_eq (a : Word) (v : Byte) (s : State) :
    memWrite a v s = { s with mem := s.mem.write a v, bus := s.bus ++ [.memWrite a v] } := rfl

theorem memRead16_eq (a : Word) (s : State) :
    memRead16 a s = (wordOf (s.mem.read (a + 1)) (s.mem.read a),
      { s with bus := s.bus ++ [.memRead a (s.mem.read a), .memRead (a + 1) (s.mem.read (a + 1))] }) := by
  simp [memRead16, memRead, State.record]

theorem memWrite16_eq (a v : Word) (s : State) :
    memWrite16 a v s = { s with
      mem := (s.mem.write a (loByte v)).write (a + 1) (hiByte v)
      bus := s.bus ++ [.memWrite a (loByte v), .memWrite (a + 1) (hiByte v)] } := by
  simp [memWrite16, memWrite, State.record, State.setMem]

theorem push16_eq (v : Word) (s : State) :
    push16 v s = { s with
      sp := s.sp - 2
      mem := (s.mem.write (s.sp - 1) (hiByte v)).write (s.sp - 2) (loByte v)
      bus := s.bus ++ [.memWrite (s.sp - 1) (hiByte v), .memWrite (s.sp - 2) (loByte v)] } := by
  simp [push16, memWrite, State.record, State.setMem, State.setSp]

theorem pop16_eq (s : State) :
    pop16 s = (wordOf (s.mem.read (s.sp + 1)) (s.mem.read s.sp), { s with
      sp := s.sp + 2
      bus := s.bus ++ [.memRead s.sp (s.mem.read s.sp), .memRead (s.sp + 1) (s.mem.read (s.sp + 1))] }) := by
  simp [pop16, memRead16_eq, State.setSp]

theorem readOperand_eq (o : Operand8) (s : State) :
    readOperand o s = (operandValue o s, { s with bus := s.bus ++ operandBus o s }) := by
  cases o <;> simp [readOperand, operandValue, operandBus, memRead, State.record]

/-- An ALU operation on A writes A and the flags, nothing else. -/
theorem aluOnA_eq (op : AluOp) (v : Byte) (s : State) :
    aluOnA op v s = { s with
      flags := Flags.ofAlu (aluCompute op s.regs.a v s.flags.cy)
      regs := { s.regs with a := (aluOnA op v s).regs.a } } := by
  cases op <;> rfl

end Sys2Proof.Machine
end

