-- ==== Sys2Proof/Laws/Exec.lean ====
section
/-! SUPPORT. What `exec` does with each family of 30_encoding.md R96, said once over the shared operation of the family:
proofs about a whole family cite these instead of unfolding `exec` per constructor. -/

namespace Sys2Proof.Machine

/-- Pattern `01dddsss`, 0x76 apart. -/
theorem exec_movOf (dst src : Operand8) (s : State) (h : ¬(dst = .mem ∧ src = .mem)) :
    exec (movOf dst src) s = movOperand dst src s := by
  obtain ((_ | _ | _ | _ | _ | _ | _) | _) := dst <;> obtain ((_ | _ | _ | _ | _ | _ | _) | _) := src <;>
    first | rfl | exact absurd ⟨rfl, rfl⟩ h

/-- Pattern `10ooosss`. -/
theorem exec_aluOf (op : AluOp) (src : Operand8) (s : State) : exec (aluOf op src) s = aluOperand op src s := by
  cases op <;> obtain ((_ | _ | _ | _ | _ | _ | _) | _) := src <;> rfl

/-- Pattern `11ooo110`. -/
theorem exec_aluImmOf (op : AluOp) (d8 : Byte) (s : State) : exec (aluImmOf op d8) s = .next (aluOnA op d8 s) := by
  cases op <;> rfl

/-- Pattern `00ddd110`. -/
theorem exec_mviOf (dst : Operand8) (d8 : Byte) (s : State) : exec (mviOf dst d8) s = mviOperand dst d8 s := by
  obtain ((_ | _ | _ | _ | _ | _ | _) | _) := dst <;> rfl

/-- Pattern `00ddd100`. -/
theorem exec_inrOf (dst : Operand8) (s : State) : exec (inrOf dst) s = inrOperand dst s := by
  obtain ((_ | _ | _ | _ | _ | _ | _) | _) := dst <;> rfl

/-- Pattern `00ddd101`. -/
theorem exec_dcrOf (dst : Operand8) (s : State) : exec (dcrOf dst) s = dcrOperand dst s := by
  obtain ((_ | _ | _ | _ | _ | _ | _) | _) := dst <;> rfl

/-- Pattern `00pp0001`. -/
theorem exec_lxiOf (p : Pair) (d16 : Word) (s : State) : exec (lxiOf p d16) s = .next (s.setPair p d16) := by
  cases p <;> rfl

/-- Pattern `00pp0011`. -/
theorem exec_inxOf (p : Pair) (s : State) : exec (inxOf p) s = .next (s.setPair p (s.pair p + 1)) := by
  cases p <;> rfl

/-- Pattern `00pp1011`. -/
theorem exec_dcxOf (p : Pair) (s : State) : exec (dcxOf p) s = .next (s.setPair p (s.pair p - 1)) := by
  cases p <;> rfl

/-- Pattern `00pp1001`. -/
theorem exec_dadOf (p : Pair) (s : State) : exec (dadOf p) s = dadPair p s := by
  cases p <;> rfl

/-- Pattern `11ccc010`. -/
theorem exec_jccOf (ccc : Cond) (a16 : Word) (s : State) : exec (jccOf ccc a16) s = jumpIf ccc a16 s := by
  cases ccc <;> rfl

/-- Pattern `11ccc100`. -/
theorem exec_cccOf (ccc : Cond) (a16 : Word) (s : State) : exec (cccOf ccc a16) s = callIf ccc a16 s := by
  cases ccc <;> rfl

/-- Pattern `11ccc000`. -/
theorem exec_rccOf (ccc : Cond) (s : State) : exec (rccOf ccc) s = returnIf ccc s := by
  cases ccc <;> rfl

end Sys2Proof.Machine
end

