-- ==== Sys2Proof/Laws/Fetch.lean ====
section
/-! SUPPORT. The decoder and the fetch, each said once: what an opcode's decoded instruction encodes to, and the whole state
that a fetch leaves. -/

namespace Sys2Proof.Machine

/-- An opcode has none, one or two operand bytes (30_encoding.md R90). -/
theorem operandCount_cases (op : Byte) : operandCount op = 0 ∨ operandCount op = 1 ∨ operandCount op = 2 := by
  revert op
  decide +kernel

/-- The instruction decoded from an opcode and two bytes encodes to the opcode and as many of the bytes as it has. -/
theorem encode_decodeOpcode (op z w : Byte) :
    encode (decodeOpcode op z w) = op :: [z, w].take (operandCount op) := by
  obtain ⟨n, rfl⟩ : ∃ n : Fin 256, op = BitVec.ofNat 8 n.val := ⟨⟨op.toNat, op.isLt⟩, by simp⟩
  fin_cases n <;> first
    | rfl
    | simp [encode, decodeOpcode, field53, field20, field54, quadrant, decodeQuadrant0, decodeQuadrant3, lxiOf, pairOf,
        jccOf, cccOf, condOf, operandCount]

/-- What one fetch leaves: PC past the instruction, its bytes in IR and the latches it uses, and its bytes read in ascending
order (R105). -/
theorem fetch_eq (s : State) :
    fetch s =
      (decodeOpcode (s.mem.read s.pc)
          (if operandCount (s.mem.read s.pc) = 0 then s.zLatch else s.mem.read (s.pc + 1))
          (if operandCount (s.mem.read s.pc) = 2 then s.mem.read (s.pc + 2) else s.wLatch),
        { s with
          pc := s.pc + BitVec.ofNat 16 (1 + operandCount (s.mem.read s.pc))
          ir := s.mem.read s.pc
          zLatch := if operandCount (s.mem.read s.pc) = 0 then s.zLatch else s.mem.read (s.pc + 1)
          wLatch := if operandCount (s.mem.read s.pc) = 2 then s.mem.read (s.pc + 2) else s.wLatch
          bus := s.bus ++ [.memRead s.pc (s.mem.read s.pc), .memRead (s.pc + 1) (s.mem.read (s.pc + 1)),
            .memRead (s.pc + 2) (s.mem.read (s.pc + 2))].take (1 + operandCount (s.mem.read s.pc)) }) := by
  have two : s.pc + 1#16 + 1#16 = s.pc + 2#16 := by bv_omega
  have three : s.pc + 2#16 + 1#16 = s.pc + 3#16 := by bv_omega
  simp only [fetch, fetchOpcode, fetchByte, memRead, State.setIr_ir, State.record, State.setPc]
  obtain h | h | h := operandCount_cases (s.mem.read s.pc) <;>
    simp [h, fetchOperands, fetchFirstOperand, fetchSecondOperand, fetchByte, memRead, State.setIr, State.record,
      State.setPc, State.setZLatch, State.setWLatch, two, three]

/-- A machine that is not halted executes what it fetches. -/
theorem step_eq_exec_fetch {s : State} (h : s.halted = false) : step s = exec (fetch s).1 (fetch s).2 := by
  simp [step, h]

end Sys2Proof.Machine
end

