-- ==== Sys2Proof/Laws/PerInstr.lean ====
section
/-! SUPPORT. Facts about every instruction as syntax, one lemma per constructor. -/

namespace Sys2Proof.Laws

/-- An instruction's encoding is an opcode byte and as many operand bytes as the decoder's table counts for it
(30_encoding.md R91, R95). -/
def EncodedLength.Statement (i : Instr) : Prop := wellFormedBytes (encode i) = true

theorem EncodedLength.nop : EncodedLength.Statement .nop := rfl
theorem EncodedLength.lxiB (d16 : Word) : EncodedLength.Statement (.lxiB d16) := rfl
theorem EncodedLength.staxB : EncodedLength.Statement .staxB := rfl
theorem EncodedLength.inxB : EncodedLength.Statement .inxB := rfl
theorem EncodedLength.inrB : EncodedLength.Statement .inrB := rfl
theorem EncodedLength.dcrB : EncodedLength.Statement .dcrB := rfl
theorem EncodedLength.mviB (d8 : Byte) : EncodedLength.Statement (.mviB d8) := rfl
theorem EncodedLength.rlc : EncodedLength.Statement .rlc := rfl
theorem EncodedLength.nop08 : EncodedLength.Statement .nop08 := rfl
theorem EncodedLength.dadB : EncodedLength.Statement .dadB := rfl
theorem EncodedLength.ldaxB : EncodedLength.Statement .ldaxB := rfl
theorem EncodedLength.dcxB : EncodedLength.Statement .dcxB := rfl
theorem EncodedLength.inrC : EncodedLength.Statement .inrC := rfl
theorem EncodedLength.dcrC : EncodedLength.Statement .dcrC := rfl
theorem EncodedLength.mviC (d8 : Byte) : EncodedLength.Statement (.mviC d8) := rfl
theorem EncodedLength.rrc : EncodedLength.Statement .rrc := rfl
theorem EncodedLength.nop10 : EncodedLength.Statement .nop10 := rfl
theorem EncodedLength.lxiD (d16 : Word) : EncodedLength.Statement (.lxiD d16) := rfl
theorem EncodedLength.staxD : EncodedLength.Statement .staxD := rfl
theorem EncodedLength.inxD : EncodedLength.Statement .inxD := rfl
theorem EncodedLength.inrD : EncodedLength.Statement .inrD := rfl
theorem EncodedLength.dcrD : EncodedLength.Statement .dcrD := rfl
theorem EncodedLength.mviD (d8 : Byte) : EncodedLength.Statement (.mviD d8) := rfl
theorem EncodedLength.ral : EncodedLength.Statement .ral := rfl
theorem EncodedLength.nop18 : EncodedLength.Statement .nop18 := rfl
theorem EncodedLength.dadD : EncodedLength.Statement .dadD := rfl
theorem EncodedLength.ldaxD : EncodedLength.Statement .ldaxD := rfl
theorem EncodedLength.dcxD : EncodedLength.Statement .dcxD := rfl
theorem EncodedLength.inrE : EncodedLength.Statement .inrE := rfl
theorem EncodedLength.dcrE : EncodedLength.Statement .dcrE := rfl
theorem EncodedLength.mviE (d8 : Byte) : EncodedLength.Statement (.mviE d8) := rfl
theorem EncodedLength.rar : EncodedLength.Statement .rar := rfl
theorem EncodedLength.rim : EncodedLength.Statement .rim := rfl
theorem EncodedLength.lxiH (d16 : Word) : EncodedLength.Statement (.lxiH d16) := rfl
theorem EncodedLength.shld (a16 : Word) : EncodedLength.Statement (.shld a16) := rfl
theorem EncodedLength.inxH : EncodedLength.Statement .inxH := rfl
theorem EncodedLength.inrH : EncodedLength.Statement .inrH := rfl
theorem EncodedLength.dcrH : EncodedLength.Statement .dcrH := rfl
theorem EncodedLength.mviH (d8 : Byte) : EncodedLength.Statement (.mviH d8) := rfl
theorem EncodedLength.daa : EncodedLength.Statement .daa := rfl
theorem EncodedLength.nop28 : EncodedLength.Statement .nop28 := rfl
theorem EncodedLength.dadH : EncodedLength.Statement .dadH := rfl
theorem EncodedLength.lhld (a16 : Word) : EncodedLength.Statement (.lhld a16) := rfl
theorem EncodedLength.dcxH : EncodedLength.Statement .dcxH := rfl
theorem EncodedLength.inrL : EncodedLength.Statement .inrL := rfl
theorem EncodedLength.dcrL : EncodedLength.Statement .dcrL := rfl
theorem EncodedLength.mviL (d8 : Byte) : EncodedLength.Statement (.mviL d8) := rfl
theorem EncodedLength.cma : EncodedLength.Statement .cma := rfl
theorem EncodedLength.sim : EncodedLength.Statement .sim := rfl
theorem EncodedLength.lxiSp (d16 : Word) : EncodedLength.Statement (.lxiSp d16) := rfl
theorem EncodedLength.sta (a16 : Word) : EncodedLength.Statement (.sta a16) := rfl
theorem EncodedLength.inxSp : EncodedLength.Statement .inxSp := rfl
theorem EncodedLength.inrM : EncodedLength.Statement .inrM := rfl
theorem EncodedLength.dcrM : EncodedLength.Statement .dcrM := rfl
theorem EncodedLength.mviM (d8 : Byte) : EncodedLength.Statement (.mviM d8) := rfl
theorem EncodedLength.stc : EncodedLength.Statement .stc := rfl
theorem EncodedLength.nop38 : EncodedLength.Statement .nop38 := rfl
theorem EncodedLength.dadSp : EncodedLength.Statement .dadSp := rfl
theorem EncodedLength.lda (a16 : Word) : EncodedLength.Statement (.lda a16) := rfl
theorem EncodedLength.dcxSp : EncodedLength.Statement .dcxSp := rfl
theorem EncodedLength.inrA : EncodedLength.Statement .inrA := rfl
theorem EncodedLength.dcrA : EncodedLength.Statement .dcrA := rfl
theorem EncodedLength.mviA (d8 : Byte) : EncodedLength.Statement (.mviA d8) := rfl
theorem EncodedLength.cmc : EncodedLength.Statement .cmc := rfl
theorem EncodedLength.movBB : EncodedLength.Statement .movBB := rfl
theorem EncodedLength.movBC : EncodedLength.Statement .movBC := rfl
theorem EncodedLength.movBD : EncodedLength.Statement .movBD := rfl
theorem EncodedLength.movBE : EncodedLength.Statement .movBE := rfl
theorem EncodedLength.movBH : EncodedLength.Statement .movBH := rfl
theorem EncodedLength.movBL : EncodedLength.Statement .movBL := rfl
theorem EncodedLength.movBM : EncodedLength.Statement .movBM := rfl
theorem EncodedLength.movBA : EncodedLength.Statement .movBA := rfl
theorem EncodedLength.movCB : EncodedLength.Statement .movCB := rfl
theorem EncodedLength.movCC : EncodedLength.Statement .movCC := rfl
theorem EncodedLength.movCD : EncodedLength.Statement .movCD := rfl
theorem EncodedLength.movCE : EncodedLength.Statement .movCE := rfl
theorem EncodedLength.movCH : EncodedLength.Statement .movCH := rfl
theorem EncodedLength.movCL : EncodedLength.Statement .movCL := rfl
theorem EncodedLength.movCM : EncodedLength.Statement .movCM := rfl
theorem EncodedLength.movCA : EncodedLength.Statement .movCA := rfl
theorem EncodedLength.movDB : EncodedLength.Statement .movDB := rfl
theorem EncodedLength.movDC : EncodedLength.Statement .movDC := rfl
theorem EncodedLength.movDD : EncodedLength.Statement .movDD := rfl
theorem EncodedLength.movDE : EncodedLength.Statement .movDE := rfl
theorem EncodedLength.movDH : EncodedLength.Statement .movDH := rfl
theorem EncodedLength.movDL : EncodedLength.Statement .movDL := rfl
theorem EncodedLength.movDM : EncodedLength.Statement .movDM := rfl
theorem EncodedLength.movDA : EncodedLength.Statement .movDA := rfl
theorem EncodedLength.movEB : EncodedLength.Statement .movEB := rfl
theorem EncodedLength.movEC : EncodedLength.Statement .movEC := rfl
theorem EncodedLength.movED : EncodedLength.Statement .movED := rfl
theorem EncodedLength.movEE : EncodedLength.Statement .movEE := rfl
theorem EncodedLength.movEH : EncodedLength.Statement .movEH := rfl
theorem EncodedLength.movEL : EncodedLength.Statement .movEL := rfl
theorem EncodedLength.movEM : EncodedLength.Statement .movEM := rfl
theorem EncodedLength.movEA : EncodedLength.Statement .movEA := rfl
theorem EncodedLength.movHB : EncodedLength.Statement .movHB := rfl
theorem EncodedLength.movHC : EncodedLength.Statement .movHC := rfl
theorem EncodedLength.movHD : EncodedLength.Statement .movHD := rfl
theorem EncodedLength.movHE : EncodedLength.Statement .movHE := rfl
theorem EncodedLength.movHH : EncodedLength.Statement .movHH := rfl
theorem EncodedLength.movHL : EncodedLength.Statement .movHL := rfl
theorem EncodedLength.movHM : EncodedLength.Statement .movHM := rfl
theorem EncodedLength.movHA : EncodedLength.Statement .movHA := rfl
theorem EncodedLength.movLB : EncodedLength.Statement .movLB := rfl
theorem EncodedLength.movLC : EncodedLength.Statement .movLC := rfl
theorem EncodedLength.movLD : EncodedLength.Statement .movLD := rfl
theorem EncodedLength.movLE : EncodedLength.Statement .movLE := rfl
theorem EncodedLength.movLH : EncodedLength.Statement .movLH := rfl
theorem EncodedLength.movLL : EncodedLength.Statement .movLL := rfl
theorem EncodedLength.movLM : EncodedLength.Statement .movLM := rfl
theorem EncodedLength.movLA : EncodedLength.Statement .movLA := rfl
theorem EncodedLength.movMB : EncodedLength.Statement .movMB := rfl
theorem EncodedLength.movMC : EncodedLength.Statement .movMC := rfl
theorem EncodedLength.movMD : EncodedLength.Statement .movMD := rfl
theorem EncodedLength.movME : EncodedLength.Statement .movME := rfl
theorem EncodedLength.movMH : EncodedLength.Statement .movMH := rfl
theorem EncodedLength.movML : EncodedLength.Statement .movML := rfl
theorem EncodedLength.hlt : EncodedLength.Statement .hlt := rfl
theorem EncodedLength.movMA : EncodedLength.Statement .movMA := rfl
theorem EncodedLength.movAB : EncodedLength.Statement .movAB := rfl
theorem EncodedLength.movAC : EncodedLength.Statement .movAC := rfl
theorem EncodedLength.movAD : EncodedLength.Statement .movAD := rfl
theorem EncodedLength.movAE : EncodedLength.Statement .movAE := rfl
theorem EncodedLength.movAH : EncodedLength.Statement .movAH := rfl
theorem EncodedLength.movAL : EncodedLength.Statement .movAL := rfl
theorem EncodedLength.movAM : EncodedLength.Statement .movAM := rfl
theorem EncodedLength.movAA : EncodedLength.Statement .movAA := rfl
theorem EncodedLength.addB : EncodedLength.Statement .addB := rfl
theorem EncodedLength.addC : EncodedLength.Statement .addC := rfl
theorem EncodedLength.addD : EncodedLength.Statement .addD := rfl
theorem EncodedLength.addE : EncodedLength.Statement .addE := rfl
theorem EncodedLength.addH : EncodedLength.Statement .addH := rfl
theorem EncodedLength.addL : EncodedLength.Statement .addL := rfl
theorem EncodedLength.addM : EncodedLength.Statement .addM := rfl
theorem EncodedLength.addA : EncodedLength.Statement .addA := rfl
theorem EncodedLength.adcB : EncodedLength.Statement .adcB := rfl
theorem EncodedLength.adcC : EncodedLength.Statement .adcC := rfl
theorem EncodedLength.adcD : EncodedLength.Statement .adcD := rfl
theorem EncodedLength.adcE : EncodedLength.Statement .adcE := rfl
theorem EncodedLength.adcH : EncodedLength.Statement .adcH := rfl
theorem EncodedLength.adcL : EncodedLength.Statement .adcL := rfl
theorem EncodedLength.adcM : EncodedLength.Statement .adcM := rfl
theorem EncodedLength.adcA : EncodedLength.Statement .adcA := rfl
theorem EncodedLength.subB : EncodedLength.Statement .subB := rfl
theorem EncodedLength.subC : EncodedLength.Statement .subC := rfl
theorem EncodedLength.subD : EncodedLength.Statement .subD := rfl
theorem EncodedLength.subE : EncodedLength.Statement .subE := rfl
theorem EncodedLength.subH : EncodedLength.Statement .subH := rfl
theorem EncodedLength.subL : EncodedLength.Statement .subL := rfl
theorem EncodedLength.subM : EncodedLength.Statement .subM := rfl
theorem EncodedLength.subA : EncodedLength.Statement .subA := rfl
theorem EncodedLength.sbbB : EncodedLength.Statement .sbbB := rfl
theorem EncodedLength.sbbC : EncodedLength.Statement .sbbC := rfl
theorem EncodedLength.sbbD : EncodedLength.Statement .sbbD := rfl
theorem EncodedLength.sbbE : EncodedLength.Statement .sbbE := rfl
theorem EncodedLength.sbbH : EncodedLength.Statement .sbbH := rfl
theorem EncodedLength.sbbL : EncodedLength.Statement .sbbL := rfl
theorem EncodedLength.sbbM : EncodedLength.Statement .sbbM := rfl
theorem EncodedLength.sbbA : EncodedLength.Statement .sbbA := rfl
theorem EncodedLength.anaB : EncodedLength.Statement .anaB := rfl
theorem EncodedLength.anaC : EncodedLength.Statement .anaC := rfl
theorem EncodedLength.anaD : EncodedLength.Statement .anaD := rfl
theorem EncodedLength.anaE : EncodedLength.Statement .anaE := rfl
theorem EncodedLength.anaH : EncodedLength.Statement .anaH := rfl
theorem EncodedLength.anaL : EncodedLength.Statement .anaL := rfl
theorem EncodedLength.anaM : EncodedLength.Statement .anaM := rfl
theorem EncodedLength.anaA : EncodedLength.Statement .anaA := rfl
theorem EncodedLength.xraB : EncodedLength.Statement .xraB := rfl
theorem EncodedLength.xraC : EncodedLength.Statement .xraC := rfl
theorem EncodedLength.xraD : EncodedLength.Statement .xraD := rfl
theorem EncodedLength.xraE : EncodedLength.Statement .xraE := rfl
theorem EncodedLength.xraH : EncodedLength.Statement .xraH := rfl
theorem EncodedLength.xraL : EncodedLength.Statement .xraL := rfl
theorem EncodedLength.xraM : EncodedLength.Statement .xraM := rfl
theorem EncodedLength.xraA : EncodedLength.Statement .xraA := rfl
theorem EncodedLength.oraB : EncodedLength.Statement .oraB := rfl
theorem EncodedLength.oraC : EncodedLength.Statement .oraC := rfl
theorem EncodedLength.oraD : EncodedLength.Statement .oraD := rfl
theorem EncodedLength.oraE : EncodedLength.Statement .oraE := rfl
theorem EncodedLength.oraH : EncodedLength.Statement .oraH := rfl
theorem EncodedLength.oraL : EncodedLength.Statement .oraL := rfl
theorem EncodedLength.oraM : EncodedLength.Statement .oraM := rfl
theorem EncodedLength.oraA : EncodedLength.Statement .oraA := rfl
theorem EncodedLength.cmpB : EncodedLength.Statement .cmpB := rfl
theorem EncodedLength.cmpC : EncodedLength.Statement .cmpC := rfl
theorem EncodedLength.cmpD : EncodedLength.Statement .cmpD := rfl
theorem EncodedLength.cmpE : EncodedLength.Statement .cmpE := rfl
theorem EncodedLength.cmpH : EncodedLength.Statement .cmpH := rfl
theorem EncodedLength.cmpL : EncodedLength.Statement .cmpL := rfl
theorem EncodedLength.cmpM : EncodedLength.Statement .cmpM := rfl
theorem EncodedLength.cmpA : EncodedLength.Statement .cmpA := rfl
theorem EncodedLength.rnz : EncodedLength.Statement .rnz := rfl
theorem EncodedLength.popB : EncodedLength.Statement .popB := rfl
theorem EncodedLength.jnz (a16 : Word) : EncodedLength.Statement (.jnz a16) := rfl
theorem EncodedLength.jmp (a16 : Word) : EncodedLength.Statement (.jmp a16) := rfl
theorem EncodedLength.cnz (a16 : Word) : EncodedLength.Statement (.cnz a16) := rfl
theorem EncodedLength.pushB : EncodedLength.Statement .pushB := rfl
theorem EncodedLength.adi (d8 : Byte) : EncodedLength.Statement (.adi d8) := rfl
theorem EncodedLength.rst0 : EncodedLength.Statement .rst0 := rfl
theorem EncodedLength.rz : EncodedLength.Statement .rz := rfl
theorem EncodedLength.ret : EncodedLength.Statement .ret := rfl
theorem EncodedLength.jz (a16 : Word) : EncodedLength.Statement (.jz a16) := rfl
theorem EncodedLength.jmpCB (a16 : Word) : EncodedLength.Statement (.jmpCB a16) := rfl
theorem EncodedLength.cz (a16 : Word) : EncodedLength.Statement (.cz a16) := rfl
theorem EncodedLength.call (a16 : Word) : EncodedLength.Statement (.call a16) := rfl
theorem EncodedLength.aci (d8 : Byte) : EncodedLength.Statement (.aci d8) := rfl
theorem EncodedLength.rst1 : EncodedLength.Statement .rst1 := rfl
theorem EncodedLength.rnc : EncodedLength.Statement .rnc := rfl
theorem EncodedLength.popD : EncodedLength.Statement .popD := rfl
theorem EncodedLength.jnc (a16 : Word) : EncodedLength.Statement (.jnc a16) := rfl
theorem EncodedLength.outPort (d8 : Byte) : EncodedLength.Statement (.outPort d8) := rfl
theorem EncodedLength.cnc (a16 : Word) : EncodedLength.Statement (.cnc a16) := rfl
theorem EncodedLength.pushD : EncodedLength.Statement .pushD := rfl
theorem EncodedLength.sui (d8 : Byte) : EncodedLength.Statement (.sui d8) := rfl
theorem EncodedLength.rst2 : EncodedLength.Statement .rst2 := rfl
theorem EncodedLength.rc : EncodedLength.Statement .rc := rfl
theorem EncodedLength.retD9 : EncodedLength.Statement .retD9 := rfl
theorem EncodedLength.jc (a16 : Word) : EncodedLength.Statement (.jc a16) := rfl
theorem EncodedLength.inPort (d8 : Byte) : EncodedLength.Statement (.inPort d8) := rfl
theorem EncodedLength.cc (a16 : Word) : EncodedLength.Statement (.cc a16) := rfl
theorem EncodedLength.callDD (a16 : Word) : EncodedLength.Statement (.callDD a16) := rfl
theorem EncodedLength.sbi (d8 : Byte) : EncodedLength.Statement (.sbi d8) := rfl
theorem EncodedLength.rst3 : EncodedLength.Statement .rst3 := rfl
theorem EncodedLength.rpo : EncodedLength.Statement .rpo := rfl
theorem EncodedLength.popH : EncodedLength.Statement .popH := rfl
theorem EncodedLength.jpo (a16 : Word) : EncodedLength.Statement (.jpo a16) := rfl
theorem EncodedLength.xthl : EncodedLength.Statement .xthl := rfl
theorem EncodedLength.cpo (a16 : Word) : EncodedLength.Statement (.cpo a16) := rfl
theorem EncodedLength.pushH : EncodedLength.Statement .pushH := rfl
theorem EncodedLength.ani (d8 : Byte) : EncodedLength.Statement (.ani d8) := rfl
theorem EncodedLength.rst4 : EncodedLength.Statement .rst4 := rfl
theorem EncodedLength.rpe : EncodedLength.Statement .rpe := rfl
theorem EncodedLength.pchl : EncodedLength.Statement .pchl := rfl
theorem EncodedLength.jpe (a16 : Word) : EncodedLength.Statement (.jpe a16) := rfl
theorem EncodedLength.xchg : EncodedLength.Statement .xchg := rfl
theorem EncodedLength.cpe (a16 : Word) : EncodedLength.Statement (.cpe a16) := rfl
theorem EncodedLength.callED (a16 : Word) : EncodedLength.Statement (.callED a16) := rfl
theorem EncodedLength.xri (d8 : Byte) : EncodedLength.Statement (.xri d8) := rfl
theorem EncodedLength.rst5 : EncodedLength.Statement .rst5 := rfl
theorem EncodedLength.rp : EncodedLength.Statement .rp := rfl
theorem EncodedLength.popPsw : EncodedLength.Statement .popPsw := rfl
theorem EncodedLength.jp (a16 : Word) : EncodedLength.Statement (.jp a16) := rfl
theorem EncodedLength.di : EncodedLength.Statement .di := rfl
theorem EncodedLength.cp (a16 : Word) : EncodedLength.Statement (.cp a16) := rfl
theorem EncodedLength.pushPsw : EncodedLength.Statement .pushPsw := rfl
theorem EncodedLength.ori (d8 : Byte) : EncodedLength.Statement (.ori d8) := rfl
theorem EncodedLength.rst6 : EncodedLength.Statement .rst6 := rfl
theorem EncodedLength.rm : EncodedLength.Statement .rm := rfl
theorem EncodedLength.sphl : EncodedLength.Statement .sphl := rfl
theorem EncodedLength.jm (a16 : Word) : EncodedLength.Statement (.jm a16) := rfl
theorem EncodedLength.ei : EncodedLength.Statement .ei := rfl
theorem EncodedLength.cm (a16 : Word) : EncodedLength.Statement (.cm a16) := rfl
theorem EncodedLength.callFD (a16 : Word) : EncodedLength.Statement (.callFD a16) := rfl
theorem EncodedLength.cpi (d8 : Byte) : EncodedLength.Statement (.cpi d8) := rfl
theorem EncodedLength.rst7 : EncodedLength.Statement .rst7 := rfl

end Sys2Proof.Laws
end

