-- ==== Sys2Proof/Tests/Slice0.lean ====
section
/-! SUPPORT. The model's own tests: the well-formedness check, the decoder, one step of the instructions, and a witness
for the hypotheses of every statement. Expected results are those of spec/95_test_vectors.md (S1 to S10, sections 2.1 to
2.10) and the words are written out from 30_encoding.md R96. -/

namespace Sys2Proof.Tests

open Sys2Proof.Machine Sys2Proof.Claims

/-! ### Well-formed bytes (30_encoding.md R90, R95): each ill-formed string is refused -/

theorem test_wellFormed_refuses_empty : wellFormedBytes [] = false := by decide

theorem test_wellFormed_refuses_missing_operand : wellFormedBytes [0x3E] = false := by decide

theorem test_wellFormed_refuses_half_address : wellFormedBytes [0xC3, 0x00] = false := by decide

theorem test_wellFormed_refuses_extra_byte : wellFormedBytes [0x00, 0x01] = false := by decide

theorem test_wellFormed_accepts_all_lengths :
    wellFormedBytes [0x76] = true ∧ wellFormedBytes [0x3E, 0x05] = true ∧ wellFormedBytes [0xC3, 0x00, 0x3E] = true := by decide

/-! ### The decoder: every row of the map of R96, a map row at a time, with d8 = 34 and d16 = 1234 -/

theorem test_decode_row_0 :
    ([0x00, 0x01, 0x02, 0x03, 0x04, 0x05, 0x06, 0x07,
      0x08, 0x09, 0x0A, 0x0B, 0x0C, 0x0D, 0x0E, 0x0F] : List Byte).map (decodeOpcode · 0x34 0x12) =
    [.nop, .lxiB 0x1234, .staxB, .inxB, .inrB, .dcrB, .mviB 0x34, .rlc,
      .nop08, .dadB, .ldaxB, .dcxB, .inrC, .dcrC, .mviC 0x34, .rrc] := by decide

theorem test_decode_row_1 :
    ([0x10, 0x11, 0x12, 0x13, 0x14, 0x15, 0x16, 0x17,
      0x18, 0x19, 0x1A, 0x1B, 0x1C, 0x1D, 0x1E, 0x1F] : List Byte).map (decodeOpcode · 0x34 0x12) =
    [.nop10, .lxiD 0x1234, .staxD, .inxD, .inrD, .dcrD, .mviD 0x34, .ral,
      .nop18, .dadD, .ldaxD, .dcxD, .inrE, .dcrE, .mviE 0x34, .rar] := by decide

theorem test_decode_row_2 :
    ([0x20, 0x21, 0x22, 0x23, 0x24, 0x25, 0x26, 0x27,
      0x28, 0x29, 0x2A, 0x2B, 0x2C, 0x2D, 0x2E, 0x2F] : List Byte).map (decodeOpcode · 0x34 0x12) =
    [.rim, .lxiH 0x1234, .shld 0x1234, .inxH, .inrH, .dcrH, .mviH 0x34, .daa,
      .nop28, .dadH, .lhld 0x1234, .dcxH, .inrL, .dcrL, .mviL 0x34, .cma] := by decide

theorem test_decode_row_3 :
    ([0x30, 0x31, 0x32, 0x33, 0x34, 0x35, 0x36, 0x37,
      0x38, 0x39, 0x3A, 0x3B, 0x3C, 0x3D, 0x3E, 0x3F] : List Byte).map (decodeOpcode · 0x34 0x12) =
    [.sim, .lxiSp 0x1234, .sta 0x1234, .inxSp, .inrM, .dcrM, .mviM 0x34, .stc,
      .nop38, .dadSp, .lda 0x1234, .dcxSp, .inrA, .dcrA, .mviA 0x34, .cmc] := by decide

theorem test_decode_row_4 :
    ([0x40, 0x41, 0x42, 0x43, 0x44, 0x45, 0x46, 0x47,
      0x48, 0x49, 0x4A, 0x4B, 0x4C, 0x4D, 0x4E, 0x4F] : List Byte).map (decodeOpcode · 0x34 0x12) =
    [.movBB, .movBC, .movBD, .movBE, .movBH, .movBL, .movBM, .movBA,
      .movCB, .movCC, .movCD, .movCE, .movCH, .movCL, .movCM, .movCA] := by decide

theorem test_decode_row_5 :
    ([0x50, 0x51, 0x52, 0x53, 0x54, 0x55, 0x56, 0x57,
      0x58, 0x59, 0x5A, 0x5B, 0x5C, 0x5D, 0x5E, 0x5F] : List Byte).map (decodeOpcode · 0x34 0x12) =
    [.movDB, .movDC, .movDD, .movDE, .movDH, .movDL, .movDM, .movDA,
      .movEB, .movEC, .movED, .movEE, .movEH, .movEL, .movEM, .movEA] := by decide

theorem test_decode_row_6 :
    ([0x60, 0x61, 0x62, 0x63, 0x64, 0x65, 0x66, 0x67,
      0x68, 0x69, 0x6A, 0x6B, 0x6C, 0x6D, 0x6E, 0x6F] : List Byte).map (decodeOpcode · 0x34 0x12) =
    [.movHB, .movHC, .movHD, .movHE, .movHH, .movHL, .movHM, .movHA,
      .movLB, .movLC, .movLD, .movLE, .movLH, .movLL, .movLM, .movLA] := by decide

theorem test_decode_row_7 :
    ([0x70, 0x71, 0x72, 0x73, 0x74, 0x75, 0x76, 0x77,
      0x78, 0x79, 0x7A, 0x7B, 0x7C, 0x7D, 0x7E, 0x7F] : List Byte).map (decodeOpcode · 0x34 0x12) =
    [.movMB, .movMC, .movMD, .movME, .movMH, .movML, .hlt, .movMA,
      .movAB, .movAC, .movAD, .movAE, .movAH, .movAL, .movAM, .movAA] := by decide

theorem test_decode_row_8 :
    ([0x80, 0x81, 0x82, 0x83, 0x84, 0x85, 0x86, 0x87,
      0x88, 0x89, 0x8A, 0x8B, 0x8C, 0x8D, 0x8E, 0x8F] : List Byte).map (decodeOpcode · 0x34 0x12) =
    [.addB, .addC, .addD, .addE, .addH, .addL, .addM, .addA,
      .adcB, .adcC, .adcD, .adcE, .adcH, .adcL, .adcM, .adcA] := by decide

theorem test_decode_row_9 :
    ([0x90, 0x91, 0x92, 0x93, 0x94, 0x95, 0x96, 0x97,
      0x98, 0x99, 0x9A, 0x9B, 0x9C, 0x9D, 0x9E, 0x9F] : List Byte).map (decodeOpcode · 0x34 0x12) =
    [.subB, .subC, .subD, .subE, .subH, .subL, .subM, .subA,
      .sbbB, .sbbC, .sbbD, .sbbE, .sbbH, .sbbL, .sbbM, .sbbA] := by decide

theorem test_decode_row_A :
    ([0xA0, 0xA1, 0xA2, 0xA3, 0xA4, 0xA5, 0xA6, 0xA7,
      0xA8, 0xA9, 0xAA, 0xAB, 0xAC, 0xAD, 0xAE, 0xAF] : List Byte).map (decodeOpcode · 0x34 0x12) =
    [.anaB, .anaC, .anaD, .anaE, .anaH, .anaL, .anaM, .anaA,
      .xraB, .xraC, .xraD, .xraE, .xraH, .xraL, .xraM, .xraA] := by decide

theorem test_decode_row_B :
    ([0xB0, 0xB1, 0xB2, 0xB3, 0xB4, 0xB5, 0xB6, 0xB7,
      0xB8, 0xB9, 0xBA, 0xBB, 0xBC, 0xBD, 0xBE, 0xBF] : List Byte).map (decodeOpcode · 0x34 0x12) =
    [.oraB, .oraC, .oraD, .oraE, .oraH, .oraL, .oraM, .oraA,
      .cmpB, .cmpC, .cmpD, .cmpE, .cmpH, .cmpL, .cmpM, .cmpA] := by decide

theorem test_decode_row_C :
    ([0xC0, 0xC1, 0xC2, 0xC3, 0xC4, 0xC5, 0xC6, 0xC7,
      0xC8, 0xC9, 0xCA, 0xCB, 0xCC, 0xCD, 0xCE, 0xCF] : List Byte).map (decodeOpcode · 0x34 0x12) =
    [.rnz, .popB, .jnz 0x1234, .jmp 0x1234, .cnz 0x1234, .pushB, .adi 0x34, .rst0,
      .rz, .ret, .jz 0x1234, .jmpCB 0x1234, .cz 0x1234, .call 0x1234, .aci 0x34, .rst1] := by decide

theorem test_decode_row_D :
    ([0xD0, 0xD1, 0xD2, 0xD3, 0xD4, 0xD5, 0xD6, 0xD7,
      0xD8, 0xD9, 0xDA, 0xDB, 0xDC, 0xDD, 0xDE, 0xDF] : List Byte).map (decodeOpcode · 0x34 0x12) =
    [.rnc, .popD, .jnc 0x1234, .outPort 0x34, .cnc 0x1234, .pushD, .sui 0x34, .rst2,
      .rc, .retD9, .jc 0x1234, .inPort 0x34, .cc 0x1234, .callDD 0x1234, .sbi 0x34, .rst3] := by decide

theorem test_decode_row_E :
    ([0xE0, 0xE1, 0xE2, 0xE3, 0xE4, 0xE5, 0xE6, 0xE7,
      0xE8, 0xE9, 0xEA, 0xEB, 0xEC, 0xED, 0xEE, 0xEF] : List Byte).map (decodeOpcode · 0x34 0x12) =
    [.rpo, .popH, .jpo 0x1234, .xthl, .cpo 0x1234, .pushH, .ani 0x34, .rst4,
      .rpe, .pchl, .jpe 0x1234, .xchg, .cpe 0x1234, .callED 0x1234, .xri 0x34, .rst5] := by decide

theorem test_decode_row_F :
    ([0xF0, 0xF1, 0xF2, 0xF3, 0xF4, 0xF5, 0xF6, 0xF7,
      0xF8, 0xF9, 0xFA, 0xFB, 0xFC, 0xFD, 0xFE, 0xFF] : List Byte).map (decodeOpcode · 0x34 0x12) =
    [.rp, .popPsw, .jp 0x1234, .di, .cp 0x1234, .pushPsw, .ori 0x34, .rst6,
      .rm, .sphl, .jm 0x1234, .ei, .cm 0x1234, .callFD 0x1234, .cpi 0x34, .rst7] := by decide

/-! ### The decoder: one word per family, bit by bit from its pattern in R96 -/

theorem test_decode_mov : decode [0b01000001] = .ok (.movBC, []) ∧ decode [0b01110111] = .ok (.movMA, []) ∧
    decode [0b01011110] = .ok (.movEM, []) ∧ decode [0b01110110] = .ok (.hlt, []) := by decide

theorem test_decode_alu : decode [0b10000000] = .ok (.addB, []) ∧ decode [0b10011101] = .ok (.sbbL, []) ∧
    decode [0b10111110] = .ok (.cmpM, []) := by decide

theorem test_decode_immediate : decode [0b00010110, 0xFF] = .ok (.mviD 0xFF, []) ∧
    decode [0b11000110, 0x42] = .ok (.adi 0x42, []) ∧ decode [0b11111110, 0x40] = .ok (.cpi 0x40, []) := by decide

theorem test_decode_pairs : decode [0b00000001, 0x34, 0x12] = .ok (.lxiB 0x1234, []) ∧ decode [0b00110011] = .ok (.inxSp, []) ∧
    decode [0b00101011] = .ok (.dcxH, []) ∧ decode [0b00011001] = .ok (.dadD, []) := by decide

theorem test_decode_inr_dcr : decode [0b00001100] = .ok (.inrC, []) ∧ decode [0b00110101] = .ok (.dcrM, []) := by decide

theorem test_decode_memory : decode [0b00010010] = .ok (.staxD, []) ∧ decode [0b00001010] = .ok (.ldaxB, []) ∧
    decode [0b00100010, 0x0A, 0x01] = .ok (.shld 0x010A, []) ∧ decode [0b00110010, 0xB3, 0x05] = .ok (.sta 0x05B3, []) := by
  decide

theorem test_decode_rotates_and_carry : decode [0b00011111] = .ok (.rar, []) ∧ decode [0b00100111] = .ok (.daa, []) ∧
    decode [0b00111111] = .ok (.cmc, []) := by decide

theorem test_decode_branches : decode [0b11000010, 0x34, 0x12] = .ok (.jnz 0x1234, []) ∧
    decode [0b11101100, 0x34, 0x12] = .ok (.cpe 0x1234, []) ∧ decode [0b11011000] = .ok (.rc, []) ∧
    decode [0b11101111] = .ok (.rst5, []) := by decide

theorem test_decode_stack : decode [0b11110101] = .ok (.pushPsw, []) ∧ decode [0b11010001] = .ok (.popD, []) ∧
    decode [0b11100011] = .ok (.xthl, []) := by decide

theorem test_decode_control : decode [0b00101000] = .ok (.nop28, []) ∧ decode [0b00100000] = .ok (.rim, []) ∧
    decode [0b11111011] = .ok (.ei, []) ∧ decode [0b11010011, 0x01] = .ok (.outPort 0x01, []) := by decide

/-- Bytes after the instruction are given back; a missing operand byte is refused by name. -/
theorem test_decode_rest_and_missing : decode [0x3E, 0x05, 0x06] = .ok (.mviA 0x05, [0x06]) ∧
    decode [] = .error .noBytes ∧ decode [0xC3, 0x00] = .error (.truncated 0xC3) := by decide

/-- The table numbers the second byte 15..8 and the third 23..16; bits it does not give are 0. -/
theorem test_decode_table_words : decodeTableWord 24 0x1234C3 = some (.jmp 0x1234) ∧
    decodeTableWord 16 0x053E = some (.mviA 0x05) ∧ decodeTableWord 8 0xC3 = some (.jmp 0x0000) := by decide

/-! ### One step. A program stands at 0100 unless a test says otherwise. -/

/-- The reset state with PC at 0100. -/
def start : State := { State.reset with pc := 0x0100 }

/-- `start` with registers B C D E H L A. -/
def regs (b c d e h l a : Byte) : Regs := { b := b, c := c, d := d, e := e, h := h, l := l, a := a }

/-- Flags in the order of the vectors. -/
def flags (z s p cy ac : Nat) : Flags := { z := z == 1, s := s == 1, p := p == 1, cy := cy == 1, ac := ac == 1 }

/-- The state a result answers, if it is a next state. -/
def nextOf : Result → Option State
  | .next t => some t
  | .fault _ => none
  | .refused _ => none

/-- Load the bytes at PC and run one step; answer what `view` sees of the next state. -/
def runs {α : Type} (bytes : List Byte) (s : State) (view : State → α) : Option α :=
  (nextOf (step (hostLoad bytes s.pc s))).map view

/-- A and the flags. -/
def aluView (s : State) : Byte × Flags := (s.regs.a, s.flags)

/-! Section 2.1: data transfer. -/

theorem test_mov_bc :
    runs [0x41] { start with regs := regs 0 0x5A 0 0 0 0 0 } (·.regs.b) = some 0x5A := by decide

theorem test_mov_hm_reads_hl_first :
    runs [0x66]
      { (hostLoad [0x99] 0x2010 start) with regs := regs 0 0 0 0 0x20 0x10 0 } (fun t => (t.regs.h, t.regs.l)) = some (0x99, 0x10) := by decide

theorem test_mov_ml_wraps :
    runs [0x75] { start with regs := regs 0 0 0 0 0xFF 0xFF 0 } (·.mem.read 0xFFFF) = some 0xFF := by decide

theorem test_mvi_d :
    runs [0x16, 0xFF] start (fun t => (t.regs.d, t.pc)) = some (0xFF, 0x0102) := by decide

theorem test_mvi_m :
    runs [0x36, 0x3C] { start with regs := regs 0 0 0 0 0x12 0x34 0 } (fun t => (t.mem.read 0x1234, t.pc)) = some (0x3C, 0x0102) := by decide

theorem test_lxi_h_across_the_top :
    runs [0x21, 0xCD, 0xAB] { start with pc := 0xFFFE } (fun t => (t.regs.h, t.regs.l, t.pc)) =
      some (0xAB, 0xCD, 0x0001) := by decide

theorem test_lxi_sp :
    runs [0x31, 0xFF, 0xFE] start (·.sp) = some 0xFEFF := by decide

theorem test_stax_b :
    runs [0x02] { start with regs := regs 0x3F 0x16 0 0 0 0 0x77 } (·.mem.read 0x3F16) = some 0x77 := by decide

theorem test_ldax_d :
    runs [0x1A] { (hostLoad [0x0D] 0xFFFF start) with regs := regs 0 0 0xFF 0xFF 0 0 0 } (·.regs.a) = some 0x0D := by decide

theorem test_shld_wraps :
    runs [0x22, 0xFF, 0xFF] { start with regs := regs 0 0 0 0 0xAE 0x29 0 } (fun t => (t.mem.read 0xFFFF, t.mem.read 0)) =
      some (0x29, 0xAE) := by decide

theorem test_lhld :
    runs [0x2A, 0x5B, 0x02] (hostLoad [0xFF, 0x03] 0x025B start) (fun t => (t.regs.h, t.regs.l)) = some (0x03, 0xFF) := by decide

theorem test_sta :
    runs [0x32, 0xB3, 0x05] { start with regs := regs 0 0 0 0 0 0 0x9C } (·.mem.read 0x05B3) = some 0x9C := by decide

theorem test_lda :
    runs [0x3A, 0x00, 0x03] (hostLoad [0x1F] 0x0300 start) (·.regs.a) = some 0x1F := by decide

theorem test_xchg :
    runs [0xEB] { start with regs := regs 0 0 0x33 0x55 0 0xFF 0 } (·.regs) = some (regs 0 0 0 0xFF 0x33 0x55 0) := by decide

/-! Section 2.2 and S2: add and subtract. -/

theorem test_add_source_example :
    runs [0x80] { start with regs := regs 0xC6 0 0 0 0 0 0x3A } aluView =
      some (0x00, flags 1 0 1 1 1) := by decide

theorem test_add_b :
    runs [0x80] { start with regs := regs 0x6C 0 0 0 0 0 0x2E } aluView =
      some (0x9A, flags 0 1 1 0 1) := by decide

theorem test_add_m :
    runs [0x86] { (hostLoad [0x01] 0x2000 start) with regs := regs 0 0 0 0 0x20 0 0x0F } aluView =
      some (0x10, flags 0 0 0 0 1) := by decide

theorem test_adi :
    runs [0xC6, 0x01] { start with regs := regs 0 0 0 0 0 0 0xFF } aluView =
      some (0x00, flags 1 0 1 1 1) := by decide

theorem test_adc_c_with_carry :
    runs [0x89] { start with regs := regs 0 0x42 0 0 0 0 0x3D, flags := flags 0 0 0 1 0 } aluView =
      some (0x80, flags 0 1 0 0 1) := by decide

theorem test_adc_a :
    runs [0x8F] { start with regs := regs 0 0 0 0 0 0 0xFF, flags := flags 0 0 0 1 0 } aluView =
      some (0xFF, flags 0 1 1 1 1) := by decide

theorem test_aci :
    runs [0xCE, 0xBE] { start with regs := regs 0 0 0 0 0 0 0x56, flags := flags 0 0 0 1 0 } aluView =
      some (0x15, flags 0 0 0 1 1) := by decide

theorem test_sub_a :
    runs [0x97] { start with regs := regs 0 0 0 0 0 0 0x3E } aluView =
      some (0x00, flags 1 0 1 0 0) := by decide

theorem test_sub_b_borrows_low_nibble :
    runs [0x90] { start with regs := regs 0x01 0 0 0 0 0 0x10 } aluView =
      some (0x0F, flags 0 0 1 0 1) := by decide

theorem test_sui :
    runs [0xD6, 0x01] { start with regs := regs 0 0 0 0 0 0 0 } aluView =
      some (0xFF, flags 0 1 1 1 1) := by decide

theorem test_sbb_b_full_borrow :
    runs [0x98] { start with regs := regs 0xFF 0 0 0 0 0 0, flags := flags 0 0 0 1 0 } aluView =
      some (0x00, flags 1 0 1 1 1) := by decide

theorem test_sbb_m :
    runs [0x9E] { (hostLoad [0x0F] 0x2000 start) with regs := regs 0 0 0 0 0x20 0 0x10, flags := flags 0 0 0 1 0 } aluView =
      some (0x00, flags 1 0 1 0 1) := by decide

theorem test_sbi :
    runs [0xDE, 0x00] { start with regs := regs 0 0 0 0 0 0 0, flags := flags 0 0 0 1 0 } aluView =
      some (0xFF, flags 0 1 1 1 1) := by decide

theorem test_cmp_e :
    runs [0xBB] { start with regs := regs 0 0 0 0x05 0 0 0x02 } aluView =
      some (0x02, flags 0 1 0 1 1) := by decide

theorem test_cpi :
    runs [0xFE, 0x4A] { start with regs := regs 0 0 0 0 0 0 0x40 } aluView =
      some (0x40, flags 0 1 1 1 1) := by decide

/-! Section 2.3 and S5: INR, DCR, INX, DCX, DAD. -/

theorem test_inr_a_keeps_carry :
    runs [0x3C] { start with regs := regs 0 0 0 0 0 0 0xFF, flags := flags 0 0 0 1 0 } aluView =
      some (0x00, flags 1 0 1 1 1) := by decide

theorem test_inr_m :
    runs [0x34] { (hostLoad [0xFF] 0x2000 start) with regs := regs 0 0 0 0 0x20 0 0 } (fun t => (t.mem.read 0x2000, t.flags)) =
      some (0x00, flags 1 0 1 0 1) := by decide

theorem test_dcr_b :
    runs [0x05] start (fun t => (t.regs.b, t.flags)) = some (0xFF, flags 0 1 1 0 1) := by decide

theorem test_dcr_m :
    runs [0x35] { (hostLoad [0x40] 0x3A7C start) with regs := regs 0 0 0 0 0x3A 0x7C 0 } (fun t => (t.mem.read 0x3A7C, t.flags)) =
      some (0x3F, flags 0 0 1 0 1) := by decide

theorem test_inx_h_wraps :
    runs [0x23] { start with regs := regs 0 0 0 0 0xFF 0xFF 0, flags := flags 1 1 1 1 1 } (fun t => (t.pair .hl, t.flags)) =
      some (0x0000, flags 1 1 1 1 1) := by decide

theorem test_inx_d_carries :
    runs [0x13] { start with regs := regs 0 0 0x38 0xFF 0 0 0 } (·.pair .de) = some 0x3900 := by decide

theorem test_dcx_b_wraps :
    runs [0x0B] { start with flags := flags 1 1 1 1 1 } (fun t => (t.pair .bc, t.flags)) = some (0xFFFF, flags 1 1 1 1 1) := by decide

theorem test_dcx_sp :
    runs [0x3B] start (·.sp) = some 0xFFFF := by decide

theorem test_dad_b :
    runs [0x09] { start with regs := regs 0x33 0x9F 0 0 0xA1 0x7B 0, flags := flags 1 0 0 0 0 } (fun t => (t.pair .hl, t.flags)) =
      some (0xD51A, flags 1 0 0 0 0) := by decide

theorem test_dad_h_carries :
    runs [0x29] { start with regs := regs 0 0 0 0 0x80 0 0 } (fun t => (t.pair .hl, t.flags)) = some (0x0000, flags 0 0 0 1 0) := by decide

/-! Section 2.4 and S3: DAA. -/

theorem test_daa_source_example :
    runs [0x27] { start with regs := regs 0 0 0 0 0 0 0x9B } aluView =
      some (0x01, flags 0 0 0 1 1) := by decide

theorem test_daa_first_step_wraps :
    runs [0x27] { start with regs := regs 0 0 0 0 0 0 0xFA } aluView =
      some (0x00, flags 1 0 1 0 1) := by decide

/-! Sections 2.5 and 2.6: logic, carry, rotates. -/

theorem test_ana_b_clears_carries :
    runs [0xA0] { start with regs := regs 0x0F 0 0 0 0 0 0xFC, flags := flags 0 0 0 1 1 } aluView =
      some (0x0C, flags 0 0 1 0 0) := by decide

theorem test_ani :
    runs [0xE6, 0x0F] { start with regs := regs 0 0 0 0 0 0 0x3A, flags := flags 0 0 0 1 1 } aluView =
      some (0x0A, flags 0 0 1 0 0) := by decide

theorem test_xra_m :
    runs [0xAE] { (hostLoad [0x78] 0x2000 start) with regs := regs 0 0 0 0 0x20 0 0x5C, flags := flags 0 0 0 1 1 } aluView =
      some (0x24, flags 0 0 1 0 0) := by decide

theorem test_xri :
    runs [0xEE, 0x81] { start with regs := regs 0 0 0 0 0 0 0x3B, flags := flags 0 0 0 1 0 } aluView =
      some (0xBA, flags 0 1 0 0 0) := by decide

theorem test_ora_c :
    runs [0xB1] { start with regs := regs 0 0x0F 0 0 0 0 0x33, flags := flags 0 0 0 1 1 } aluView =
      some (0x3F, flags 0 0 1 0 0) := by decide

theorem test_ori :
    runs [0xF6, 0x0F] { start with regs := regs 0 0 0 0 0 0 0xB5, flags := flags 0 0 0 1 1 } aluView =
      some (0xBF, flags 0 1 0 0 0) := by decide

theorem test_cma :
    runs [0x2F] { start with regs := regs 0 0 0 0 0 0 0x51, flags := flags 1 1 1 1 1 } aluView =
      some (0xAE, flags 1 1 1 1 1) := by decide

theorem test_stc :
    runs [0x37] { start with regs := regs 0 0 0 0 0 0 0 } aluView =
      some (0x00, flags 0 0 0 1 0) := by decide

theorem test_cmc :
    runs [0x3F] { start with regs := regs 0 0 0 0 0 0 0, flags := flags 1 1 1 1 1 } aluView =
      some (0x00, flags 1 1 1 0 1) := by decide

theorem test_rlc :
    runs [0x07] { start with regs := regs 0 0 0 0 0 0 0xF2 } aluView =
      some (0xE5, flags 0 0 0 1 0) := by decide

theorem test_rrc :
    runs [0x0F] { start with regs := regs 0 0 0 0 0 0 0xF2, flags := flags 0 0 0 1 0 } aluView =
      some (0x79, flags 0 0 0 0 0) := by decide

theorem test_ral :
    runs [0x17] { start with regs := regs 0 0 0 0 0 0 0x80, flags := flags 1 0 1 0 0 } aluView =
      some (0x00, flags 1 0 1 1 0) := by decide

theorem test_rar :
    runs [0x1F] { start with regs := regs 0 0 0 0 0 0 0x6A, flags := flags 0 0 0 1 0 } aluView =
      some (0xB5, flags 0 0 0 0 0) := by decide

/-! Section 2.7 and S6: branches. -/

theorem test_jmp :
    runs [0xC3, 0x00, 0x3E] start (·.pc) = some 0x3E00 := by decide

theorem test_jnz_both_ways :
    runs [0xC2, 0x34, 0x12] { start with flags := flags 0 0 0 0 0 } (·.pc) = some 0x1234 ∧
    runs [0xC2, 0x34, 0x12] { start with flags := flags 1 0 0 0 0 } (·.pc) = some 0x0103 := by decide

theorem test_jz_both_ways :
    runs [0xCA, 0x34, 0x12] { start with flags := flags 1 0 0 0 0 } (·.pc) = some 0x1234 ∧
    runs [0xCA, 0x34, 0x12] { start with flags := flags 0 0 0 0 0 } (·.pc) = some 0x0103 := by decide

theorem test_jnc_both_ways :
    runs [0xD2, 0x34, 0x12] { start with flags := flags 0 0 0 0 0 } (·.pc) = some 0x1234 ∧
    runs [0xD2, 0x34, 0x12] { start with flags := flags 0 0 0 1 0 } (·.pc) = some 0x0103 := by decide

theorem test_jc_both_ways :
    runs [0xDA, 0x34, 0x12] { start with flags := flags 0 0 0 1 0 } (·.pc) = some 0x1234 ∧
    runs [0xDA, 0x34, 0x12] { start with flags := flags 0 0 0 0 0 } (·.pc) = some 0x0103 := by decide

theorem test_jpo_both_ways :
    runs [0xE2, 0x34, 0x12] { start with flags := flags 0 0 0 0 0 } (·.pc) = some 0x1234 ∧
    runs [0xE2, 0x34, 0x12] { start with flags := flags 0 0 1 0 0 } (·.pc) = some 0x0103 := by decide

theorem test_jpe_both_ways :
    runs [0xEA, 0x34, 0x12] { start with flags := flags 0 0 1 0 0 } (·.pc) = some 0x1234 ∧
    runs [0xEA, 0x34, 0x12] { start with flags := flags 0 0 0 0 0 } (·.pc) = some 0x0103 := by decide

theorem test_jp_both_ways :
    runs [0xF2, 0x34, 0x12] { start with flags := flags 0 0 0 0 0 } (·.pc) = some 0x1234 ∧
    runs [0xF2, 0x34, 0x12] { start with flags := flags 0 1 0 0 0 } (·.pc) = some 0x0103 := by decide

theorem test_jm_both_ways :
    runs [0xFA, 0x34, 0x12] { start with flags := flags 0 1 0 0 0 } (·.pc) = some 0x1234 ∧
    runs [0xFA, 0x34, 0x12] { start with flags := flags 0 0 0 0 0 } (·.pc) = some 0x0103 := by decide

theorem test_call :
    runs [0xCD, 0x34, 0x12] { start with sp := 0x2400 }
      (fun t => (t.pc, t.sp, t.mem.read 0x23FF, t.mem.read 0x23FE)) = some (0x1234, 0x23FE, 0x01, 0x03) := by decide

theorem test_call_overwrites_itself :
    runs [0xCD, 0x00, 0x10] { start with sp := 0x0102 }
      (fun t => (t.pc, t.sp, t.mem.read 0x0101, t.mem.read 0x0100)) = some (0x1000, 0x0100, 0x01, 0x03) := by decide

theorem test_cnz_both_ways :
    runs [0xC4, 0x00, 0x20] { start with pc := 0x0200, sp := 0x3000 } (fun t => (t.pc, t.sp)) = some (0x2000, 0x2FFE) ∧
    runs [0xC4, 0x00, 0x20] { start with flags := flags 1 0 0 0 0, pc := 0x0200, sp := 0x3000 } (fun t => (t.pc, t.sp)) = some (0x0203, 0x3000) := by decide

theorem test_ret_across_the_top :
    runs [0xC9] { (hostLoad [0x03, 0x01] 0xFFFF start) with pc := 0x1234, sp := 0xFFFF } (fun t => (t.pc, t.sp)) =
      some (0x0103, 0x0001) := by decide

theorem test_rc_both_ways :
    runs [0xD8] { (hostLoad [0x03, 0x01] 0x23FE start) with flags := flags 0 0 0 1 0, pc := 0x1234, sp := 0x23FE }
      (fun t => (t.pc, t.sp)) = some (0x0103, 0x2400) ∧
    runs [0xD8] { start with pc := 0x1234, sp := 0x23FE } (fun t => (t.pc, t.sp)) = some (0x1235, 0x23FE) := by decide

theorem test_rst_7 :
    runs [0xFF] { start with pc := 0x0455, sp := 0x2400 }
      (fun t => (t.pc, t.mem.read 0x23FF, t.mem.read 0x23FE)) = some (0x0038, 0x04, 0x56) := by decide

theorem test_pchl :
    runs [0xE9] { start with regs := regs 0 0 0 0 0x41 0x3E 0 } (·.pc) = some 0x413E := by decide

/-! Section 2.8, S4 and S9: the stack. -/

theorem test_push_d :
    runs [0xD5] { start with regs := regs 0 0 0x8F 0x9D 0 0 0, sp := 0x3A2C }
      (fun t => (t.sp, t.mem.read 0x3A2B, t.mem.read 0x3A2A)) = some (0x3A2A, 0x8F, 0x9D) := by decide

theorem test_pop_h :
    runs [0xE1] { (hostLoad [0x3D, 0x93] 0x1239 start) with sp := 0x1239 } (fun t => (t.pair .hl, t.sp)) = some (0x933D, 0x123B) := by decide

theorem test_pop_psw :
    runs [0xF1] { (hostLoad [0xC3, 0xFF] 0x2C00 start) with sp := 0x2C00 } aluView = some (0xFF, flags 1 1 0 1 0) := by decide

theorem test_xthl :
    runs [0xE3] { (hostLoad [0xF0, 0x0D] 0x10AD start) with regs := regs 0 0 0 0 0x0B 0x3C 0, sp := 0x10AD }
      (fun t => (t.pair .hl, t.sp, t.mem.read 0x10AD, t.mem.read 0x10AE)) = some (0x0DF0, 0x10AD, 0x3C, 0x0B) := by decide

theorem test_sphl :
    runs [0xF9] { start with regs := regs 0 0 0 0 0x50 0x6C 0 } (·.sp) = some 0x506C := by decide

theorem test_push_psw :
    runs [0xF5] { start with regs := regs 0 0 0 0 0 0 0xAA, flags := flags 1 1 1 1 1, sp := 0x502A }
      (fun t => (t.sp, t.mem.read 0x5029, t.mem.read 0x5028)) =
      some (0x5028, 0xAA, (flags 1 1 1 1 1).byte) := by
  show some ((0x5028 : Word), hiByte (wordOf 0xAA (flags 1 1 1 1 1).byte), loByte (wordOf 0xAA (flags 1 1 1 1 1).byte)) = _
  rw [hiByte_wordOf, loByte_wordOf]

/-- The Flags byte of five set flags is D7 under FLAGS_FIXED = 02: D5 under the mask, whatever the fixed bits are. -/
theorem test_flags_byte_all_set : (flags 1 1 1 1 1).byte &&& 0xD5 = 0xD5 := by
  have key : ∀ x : Byte, (0xD5 ||| (x &&& 0x2A)) &&& 0xD5 = 0xD5 := by decide
  exact key Config.flagsFixedFree

/-! Section 2.9: control and I/O. -/

theorem test_hlt :
    runs [0x76] { start with pc := 0x0005 } (fun t => (t.halted, t.pc)) = some (true, 0x0006) := by decide

theorem test_nop_at_the_top :
    runs [0x00] { start with pc := 0xFFFF } (·.pc) = some 0x0000 := by decide

theorem test_rim_is_no_op :
    runs [0x20] { start with regs := regs 0 0 0 0 0 0 0x5A, inte := true }
      (fun t => (t.regs, t.inte, t.pc)) = some (regs 0 0 0 0 0 0 0x5A, true, 0x0101) := by decide

theorem test_sim_is_no_op :
    runs [0x30] { start with regs := regs 0 0 0 0 0 0 0xFF, inte := true }
      (fun t => (t.regs, t.inte, t.pc)) = some (regs 0 0 0 0 0 0 0xFF, true, 0x0101) := by decide

theorem test_ei :
    runs [0xFB] start (·.inte) = some true := by decide

theorem test_di :
    runs [0xF3] { start with inte := true } (·.inte) = some false := by decide

theorem test_out :
    runs [0xD3, 0x01] { start with regs := regs 0 0 0 0 0 0 0x41 } (fun t => (t.ioTrace, t.pc)) =
      some ([.portOut 0x01 0x41], 0x0102) := by decide

/-- Whatever the host answers, IN puts it in A and in the trace, once. -/
theorem test_in :
    runs [0xDB, 0x10] start (fun t => (t.regs.a, t.ioTrace, t.portReads)) =
      some (Config.portIn 0x10 0, [.portIn 0x10 (Config.portIn 0x10 0)], 1) := rfl

/-! Section 2.10: reset, and the host. -/

/-- The state before reset of section 2.10. -/
def beforeReset : State :=
  { start with
    regs := regs 0x12 0x34 0x56 0x78 0x9A 0xBC 0xDE
    flags := flags 1 1 1 1 1
    sp := 0xF00D
    pc := 0xBEEF
    inte := true
    halted := true
    mem := [(0x0000, 0x76), (0x1000, 0x42)] }

theorem test_reset_keeps_memory : hostReset beforeReset = { State.reset with mem := [(0x0000, 0x76), (0x1000, 0x42)] } := by
  decide

theorem test_reset_then_step_halts :
    (nextOf (step (hostReset beforeReset))).map (fun t => (t.halted, t.pc)) = some (true, 0x0001) := by decide

/-- `run` asks the predicate before each step: a stop condition already signalled runs none (R351, D29). -/
theorem test_run_stops_before_a_step : (nextOf (hostRun [true] start)) = some start := by decide

/-! ### A table word runs as the first instruction after reset -/

theorem test_fetch_word_runs_first :
    (nextOf (step (State.reset.withFetchWord 24 0x123421))).map (fun t => (t.pair .hl, t.pc)) = some (0x1234, 0x0003) := by
  decide

theorem test_fetch_word_runs_when_halted :
    (nextOf (step ({ start with halted := true }.withFetchWord 16 0x053E))).map (fun t => (t.regs.a, t.pc)) =
      some (0x05, 0x0102) := by decide

/-! ### Witnesses: states and operands that meet the hypotheses of the statements -/

/-- Two states of a call and its return: before CALL, and after it. -/
def afterCall : State :=
  { start with pc := 0x1234, sp := 0x23FE, mem := [(0x23FE, 0x00), (0x23FF, 0x01)]
               bus := [.memWrite 0x23FF 0x01, .memWrite 0x23FE 0x00] }

theorem witness_EncodeOfDecodeIsIdentity :
    wellFormedBytes [0xC3, 0x34, 0x12] = true ∧ wellFormedBytes [0x76] = true ∧ wellFormedBytes [0xDB, 0x10] = true := by decide

/-- An instruction that crosses the top of the address space. -/
theorem witness_StepRunsTheInstructionAtPc :
    ∃ (i : Instr) (s : State), s.halted = false ∧ StandsAtPc i s ∧ s.pc = 0xFFFE :=
  ⟨.lxiH 0xABCD, hostLoad [0x21, 0xCD, 0xAB] 0xFFFE { start with pc := 0xFFFE }, rfl,
    show ∀ k, k < 3 → _ by decide, rfl⟩

/-- A halted state, one whose next opcode is HLT, and one whose next is not. -/
theorem witness_HaltedIsWrittenByHltAndResetAndIsTerminal :
    ({ start with halted := true } : State).halted = true ∧
      (∃ t, step (hostLoad [0x76] 0x0100 start) = .next t ∧ t.halted = true) ∧
      (∃ t, step (hostLoad [0x00] 0x0100 start) = .next t ∧ t.halted = false) :=
  ⟨rfl, ⟨_, rfl, rfl⟩, _, rfl, rfl⟩

theorem witness_StepKeepsInvariant :
    ∃ s t : State, s.Inv ∧ step s = .next t ∧ t.portReads = 1 :=
  ⟨hostLoad [0xDB, 0x10] 0x0100 start, _, ⟨rfl, rfl⟩, rfl, rfl⟩

theorem witness_HistoryAccountsForMemory :
    ∃ s t : State, step s = .next t ∧ t.bus = [.memRead 0x0100 0x02, .memWrite 0x3F16 0x77] :=
  ⟨hostLoad [0x02] 0x0100 { start with regs := regs 0x3F 0x16 0 0 0 0 0x77 }, _, rfl, by decide⟩

/-- EI, DI and an instruction that is neither. -/
theorem witness_InteIsTrackedAndNotActedUpon :
    ∃ a b c : State, exec .ei start = .next a ∧ exec .di a = .next b ∧ exec .nop a = .next c ∧
      (a.inte, b.inte, c.inte) = (true, false, true) := ⟨_, _, _, rfl, rfl, rfl, rfl⟩

/-- An instruction that writes neither kind of flag, one that writes CY alone, one that writes all but CY. -/
theorem witness_FlagsAreWrittenOnlyByTheirInstructions :
    (∃ a b c : State, exec .movAB start = .next a ∧ exec .rlc start = .next b ∧ exec .inrB start = .next c) ∧
      writesResultFlags (opcodeOf .movAB) = false ∧ writesCarry (opcodeOf .movAB) = false ∧
      writesResultFlags (opcodeOf .rlc) = false ∧ writesCarry (opcodeOf .rlc) = true ∧
      writesResultFlags (opcodeOf .inrB) = true ∧ writesCarry (opcodeOf .inrB) = false :=
  ⟨⟨_, _, _, rfl, rfl, rfl⟩, by decide⟩

theorem witness_SpAndPcAreWrittenOnlyByTheirInstructions :
    (∃ a b : State, exec .pchl start = .next a ∧ exec .popB start = .next b) ∧
      writesSp (opcodeOf .pchl) = false ∧ writesPc (opcodeOf .pchl) = true ∧
      writesSp (opcodeOf .popB) = true ∧ writesPc (opcodeOf .popB) = false := ⟨⟨_, _, rfl, rfl⟩, by decide⟩

/-- Two bytes loaded across the top of the address space: an address outside the range, and each byte of it. -/
theorem witness_LoadWritesExactlyItsRange :
    (∀ j, j < 2 → (0xFFFF : Word) + BitVec.ofNat 16 j ≠ 1) ∧
      (∀ k, k < 2 → 0 < k → (0xFFFF : Word) + BitVec.ofNat 16 k ≠ 0xFFFF + BitVec.ofNat 16 0) ∧
      (∀ k, k < 2 → 1 < k → (0xFFFF : Word) + BitVec.ofNat 16 k ≠ 0xFFFF + BitVec.ofNat 16 1) ∧
      (hostLoad [0x11, 0x22] 0xFFFF start).mem = [(0, 0x22), (0xFFFF, 0x11)] := by decide

/-- A register and a pair other than the destination, for the frames of MOV, MVI, INR, DCR, LXI, INX and DCX. -/
theorem witness_other_register_and_pair : Reg8.a ≠ Reg8.b ∧ Pair.sp ≠ Pair.hl := by decide

/-- SHLD at the top of the address space, and a state with another HL that holds what it stored. -/
theorem witness_ShldAndLhldMoveHl :
    ∃ s t u : State, exec (.shld 0xFFFF) s = .next t ∧ u.mem.read 0xFFFF = t.mem.read 0xFFFF ∧
      u.mem.read (0xFFFF + 1) = t.mem.read (0xFFFF + 1) ∧ u.pair .hl ≠ s.pair .hl :=
  ⟨{ start with regs := regs 0 0 0 0 0xAE 0x29 0 }, _, { start with mem := [(0, 0xAE), (0xFFFF, 0x29)] }, rfl, by decide⟩

theorem witness_ComparesWriteFlagsOnly :
    ∃ s t : State, exec (.cpi 0x4A) s = .next t ∧ t.flags.cy = true ∧ t.flags.z = false :=
  ⟨{ start with regs := regs 0 0 0 0 0 0 0x40 }, _, rfl, by decide⟩

/-- The memory operand's code, the codes on both sides of it, another register than the operand, another cell than the
one written. -/
theorem witness_OperandAccessByCode :
    operandOf 6 = .mem ∧ (5 : BitVec 3) ≠ 6 ∧ operandOf 5 = .reg .l ∧ (7 : BitVec 3) ≠ 6 ∧ operandOf 7 = .reg .a ∧
      Reg8.l ≠ Reg8.a ∧ (0 : Word) ≠ 0xFFFF := by decide

/-- A member of each list of aliases. -/
theorem witness_SourceStatedOpcodesDecode :
    (0x30 : Byte) ∈ ([0x08, 0x10, 0x18, 0x28, 0x30, 0x38] : List Byte) ∧ (0xFD : Byte) ∈ ([0xDD, 0xED, 0xFD] : List Byte) ∧
      Instr.nop08 ∈ ([.nop08, .nop10, .nop18, .nop28, .sim, .nop38] : List Instr) := by decide

/-- The flags of each branch condition, both ways. -/
theorem witness_conditions (ccc : Cond) : condHolds ccc (flags 0 0 0 0 0) ≠ condHolds ccc (flags 1 1 1 1 1) := by
  cases ccc <;> decide

theorem witness_CallThenReturnComesBack :
    ∃ s t : State, exec (.call 0x1234) s = .next t ∧ afterCall.sp = t.sp ∧
      afterCall.mem.read t.sp = t.mem.read t.sp ∧ afterCall.mem.read (t.sp + 1) = t.mem.read (t.sp + 1) :=
  ⟨{ start with sp := 0x2400 }, _, rfl, by decide⟩

/-- A PUSH whose two bytes lie at the top of memory (S9), then another B and C. -/
theorem witness_PushThenPopRestores :
    ∃ s t u : State, exec (pushOf .bc) s = .next t ∧ u.sp = t.sp ∧ u.mem = t.mem ∧ u.pair .bc ≠ s.pair .bc :=
  ⟨{ start with regs := regs 0x11 0x22 0 0 0 0 0 }, _,
    { start with sp := 0xFFFE, mem := [(0xFFFE, 0x22), (0xFFFF, 0x11)] }, rfl, by decide⟩

theorem witness_HltHaltsOnePastItself :
    ∃ s : State, s.halted = false ∧ s.mem.read s.pc = 0x76 ∧ s.pc = 0xFFFF :=
  ⟨{ start with pc := 0xFFFF, mem := [(0xFFFF, 0x76)] }, by decide⟩

/-- An opcode of each list of the length table (S1). -/
theorem witness_OperandCountsFollowLengthTable :
    (operandCount 0xFD, operandCount 0xDB, operandCount 0x76) = (2, 1, 0) := by decide

end Sys2Proof.Tests
end

section
namespace Sys2Proof.Proofs

open Sys2Proof.Machine Sys2Proof.Claims

/-! ### The result flags (R13) -/

/-- The model's sum of the eight bits is the claim's count of the positions that hold a one. -/
theorem setBits_eq_onesCount (v : Byte) : setBits v = onesCount v := by
  have range_eight : List.range 8 = [0, 1, 2, 3, 4, 5, 6, 7] := rfl
  simp only [setBits, onesCount, range_eight, ← List.countP_eq_length_filter, List.countP_cons,
    List.countP_nil, Bool.toNat, Bool.cond_eq_ite]
  omega

theorem parity_iff_setBits_even (v : Byte) : parity v = true ↔ setBits v % 2 = 0 := by
  rw [setBits_eq_onesCount, parity, beq_iff_eq]

theorem beq_zero_iff_toNat_eq_zero (v : Byte) : (v == 0) = true ↔ v.toNat = 0 := by
  rw [beq_iff_eq, BitVec.toNat_eq, BitVec.ofNat_eq_ofNat, BitVec.toNat_zero]

theorem bit_seven_iff_le_toNat (v : Byte) : v.getLsbD 7 = true ↔ 128 ≤ v.toNat := by
  have bit_seven : v.getLsbD 7 = v.msb := (BitVec.msb_eq_getLsbD_last v).symm
  rw [bit_seven, BitVec.msb_eq_decide, decide_eq_true_iff]

/-- `SetZSP` writes the three flags as R13 defines them from the byte. -/
theorem resultFlags_setZSP (f : Flags) (v : Byte) : ResultFlags (f.setZSP v) v :=
  ⟨beq_zero_iff_toNat_eq_zero v, bit_seven_iff_le_toNat v, parity_iff_setBits_even v⟩

@[simp] theorem setZSP_cy (f : Flags) (v : Byte) : (f.setZSP v).cy = f.cy := rfl
@[simp] theorem setZSP_ac (f : Flags) (v : Byte) : (f.setZSP v).ac = f.ac := rfl

/-! ### `Add8` (R151) -/

section
variable (a b : Byte) (cin : Bool)

@[simp] theorem add8_res_toNat : (add8 a b cin).res.toNat = (a.toNat + b.toNat + cin.toNat) % 256 :=
  BitVec.toNat_ofNat ..

@[simp] theorem add8_cy_iff : (add8 a b cin).cy = true ↔ 255 < a.toNat + b.toNat + cin.toNat :=
  decide_eq_true_iff

@[simp] theorem add8_ac_iff :
    (add8 a b cin).ac = true ↔ 15 < a.toNat % 16 + b.toNat % 16 + cin.toNat :=
  decide_eq_true_iff

/-- `cy = sum[8]`: the sum is below 512, so its bit 8 says whether it passed 255. -/
theorem add8_cy_eq_testBit : (add8 a b cin).cy = (a.toNat + b.toNat + cin.toNat).testBit 8 := by
  have sum_lt : a.toNat + b.toNat + cin.toNat < 512 := by have := cin.toNat_le; omega
  rw [Bool.eq_iff_iff, add8_cy_iff, Nat.testBit_eq_decide_div_mod_eq, decide_eq_true_iff]
  omega

/-- The result byte is the sum of bit vectors that the library's carry chain describes. -/
theorem add8_res_eq_add : (add8 a b cin).res = a + b + (BitVec.ofBool cin).setWidth 8 := by
  apply BitVec.eq_of_toNat_eq
  cases cin <;> simp

theorem add8_ac_eq_carry : (add8 a b cin).ac = BitVec.carry 4 a b cin := rfl

/-- `ac = (a ^ b ^ res)[4]`: bit 4 of the result is the exclusive or of the operands' bits 4 and the carry into it. -/
theorem add8_ac_eq_xor_bit : (add8 a b cin).ac = (a ^^^ b ^^^ (add8 a b cin).res).getLsbD 4 := by
  have res_bit : (add8 a b cin).res.getLsbD 4 =
      (a.getLsbD 4 ^^ (b.getLsbD 4 ^^ BitVec.carry 4 a b cin)) := by
    rw [add8_res_eq_add, BitVec.getLsbD_add_add_bool (by decide)]
  rw [add8_ac_eq_carry, BitVec.getLsbD_xor, BitVec.getLsbD_xor, res_bit, ← Bool.xor_assoc (a.getLsbD 4) (b.getLsbD 4),
    ← Bool.xor_assoc, Bool.xor_self, Bool.false_xor]

end

/-- Settles O39: the clauses on `Add8` one by one, then those on parity and `SetZSP`. -/
theorem addEightAndResultFlags : Obligations.AddEightAndResultFlags := by
  refine ⟨fun a b cin => ?add, fun f v => ?flags⟩
  case add =>
    exact ⟨add8_res_toNat a b cin, add8_cy_iff a b cin, add8_ac_iff a b cin, add8_cy_eq_testBit a b cin,
      add8_ac_eq_xor_bit a b cin⟩
  case flags => exact ⟨parity_iff_setBits_even v, resultFlags_setZSP f v, setZSP_cy f v, setZSP_ac f v⟩

end Sys2Proof.Proofs
end

section
namespace Sys2Proof.Proofs

open Sys2Proof.Machine Sys2Proof.Claims

/-! ### The Flags byte (10_state.md R30 to R32) -/

theorem getLsbD_flagBit (f : Bool) (position k : Nat) :
    (flagBit f position).getLsbD k = (f && (decide (position < 8) && decide (position = k))) := by
  cases f
  · simp [flagBit]
  · exact BitVec.getLsbD_twoPow position k

/-- FLAGS_FIXED has no bit at the position of a flag. -/
theorem flagsFixed_and_flagMask : Config.flagsFixed &&& 0xD5 = 0 := by
  rw [Config.flagsFixed, BitVec.and_assoc]
  exact BitVec.and_zero

theorem getLsbD_flagsFixed (k : Nat) :
    Config.flagsFixed.getLsbD k = (Config.flagsFixedFree.getLsbD k && (0x2A#8).getLsbD k) := by
  rw [Config.flagsFixed, BitVec.getLsbD_and]
  rfl

/-- A bit of the Flags byte is the flag at its position or the bit of FLAGS_FIXED. -/
theorem getLsbD_flagsByte (f : Flags) (k : Nat) :
    f.byte.getLsbD k = (f.s && decide (7 = k) || f.z && decide (6 = k) || f.ac && decide (4 = k) ||
      f.p && decide (2 = k) || f.cy && decide (0 = k) || Config.flagsFixed.getLsbD k) := by
  simp [Flags.byte, getLsbD_flagBit]

theorem flagsByte_and_fixedMask (f : Flags) : f.byte &&& 0x2A = Config.flagsFixed := by
  apply BitVec.eq_of_getLsbD_eq
  intro k hk
  rw [BitVec.getLsbD_and, getLsbD_flagsByte, getLsbD_flagsFixed]
  interval_cases k <;> simp

theorem ofByte_flagsByte (f : Flags) : Flags.ofByte f.byte = f := by
  simp only [Flags.ofByte, getLsbD_flagsByte, getLsbD_flagsFixed]
  simp

theorem flagsByte_ofByte (v : Byte) : (Flags.ofByte v).byte = (v &&& 0xD5) ||| Config.flagsFixed := by
  apply BitVec.eq_of_getLsbD_eq
  intro k hk
  rw [BitVec.getLsbD_or, BitVec.getLsbD_and, getLsbD_flagsByte, getLsbD_flagsFixed]
  interval_cases k <;> simp [Flags.ofByte]

/-- Settles O20: both round trips bit by bit; the five positions are those that unpacking reads. -/
theorem flagsBytePacksAndUnpacks : Obligations.FlagsBytePacksAndUnpacks := by
  refine ⟨fun f => ?pack, flagsByte_ofByte, flagsFixed_and_flagMask, fun s => wordOf_toNat _ _⟩
  have unpacked := ofByte_flagsByte f
  exact ⟨congrArg Flags.s unpacked, congrArg Flags.z unpacked, congrArg Flags.ac unpacked, congrArg Flags.p unpacked,
    congrArg Flags.cy unpacked, flagsByte_and_fixedMask f, unpacked⟩

/-! ### Reset, pairs and operands (10_state.md R23, R24, R41) -/

/-- Settles O9: an empty memory is canonical, and an empty history has no port read. -/
theorem resetMeetsInvariant : Obligations.ResetMeetsInvariant := ⟨Memory.wf_reset, rfl⟩

/-- Settles O21: a pair reads as its two registers side by side, and a write splits the word at bit 8. -/
theorem pairsAreHighFirstViews : Obligations.PairsAreHighFirstViews := by
  intro s
  have view : ∀ hi lo : Byte, (wordOf hi lo).toNat = 256 * hi.toNat + lo.toNat := fun hi lo => by
    rw [wordOf_toNat, Nat.mul_comm]
  exact ⟨view _ _, view _ _, view _ _, fun v =>
    ⟨hiByte v, loByte v, hiByte_toNat v, loByte_toNat v, rfl, rfl, rfl, rfl, rfl⟩⟩

theorem operandCode_operandOf (code : BitVec 3) : operandCode (operandOf code) = code := by
  revert code
  decide

/-- Every code but 6 is the code of the register it names. -/
theorem operandOf_eq_reg {code : BitVec 3} (h : code ≠ 6) : ∃ r, operandOf code = .reg r ∧ regCode r = code := by
  have coded := operandCode_operandOf code
  cases named : operandOf code with
  | reg r =>
    rw [named] at coded
    exact ⟨r, rfl, coded⟩
  | mem =>
    rw [named] at coded
    exact absurd coded.symm h

/-- Settles O22: code 6 is the memory operand, every other code a register. -/
theorem operandAccessByCode : Obligations.OperandAccessByCode := by
  refine fun code s => ⟨operandCode_operandOf code, ?memory, ?register⟩
  case memory =>
    rintro rfl v
    exact ⟨⟨_, memRead_eq _ s⟩, rfl⟩
  case register =>
    intro h
    obtain ⟨r, named, code_r⟩ := operandOf_eq_reg h
    rw [named]
    exact ⟨r, code_r, rfl, fun v => ⟨s.setReg r v, rfl, Regs.get_set_self _ _ _,
      fun q other => Regs.get_set_other _ v other, rfl⟩⟩

/-! ### The control part of the state -/

/-- The part of the state that no instruction computes with: the latches, IR, INTE and HALTED (10_state.md R35 to R38). -/
structure Control where
  wLatch : Byte
  zLatch : Byte
  ir : Byte
  inte : Bool
  halted : Bool

/-- The control part of a state. -/
def controlOf (s : State) : Control :=
  { wLatch := s.wLatch, zLatch := s.zLatch, ir := s.ir, inte := s.inte, halted := s.halted }

/-- The state with another control part. -/
def withControl (s : State) (c : Control) : State :=
  { s with wLatch := c.wLatch, zLatch := c.zLatch, ir := c.ir, inte := c.inte, halted := c.halted }

@[simp] theorem withControl_controlOf (s : State) : withControl s (controlOf s) = s := rfl

/-- What executing `i` makes of the control part. -/
def Control.after (c : Control) (i : Instr) : Control :=
  { c with
    inte := match i with | .ei => true | .di => false | _ => c.inte
    halted := match i with | .hlt => true | _ => c.halted }

theorem Control.after_inte (c : Control) (i : Instr) :
    (c.after i).inte = if i = .ei then true else if i = .di then false else c.inte := by
  dsimp only [Control.after]
  split <;> simp_all

theorem Control.after_halted (c : Control) (i : Instr) : (c.after i).halted = (c.halted || decide (i = .hlt)) := by
  dsimp only [Control.after]
  split <;> simp_all

/-! ### What executing an instruction can do -/

/-- The state `t`, but with the flags, SP and PC of `s` where the rule of opcode `op` does not write them. -/
def restrictWrites (op : Byte) (s t : State) : State :=
  { t with
    flags :=
      { z := if writesResultFlags op then t.flags.z else s.flags.z
        s := if writesResultFlags op then t.flags.s else s.flags.s
        p := if writesResultFlags op then t.flags.p else s.flags.p
        ac := if writesResultFlags op then t.flags.ac else s.flags.ac
        cy := if writesCarry op then t.flags.cy else s.flags.cy }
    sp := if writesSp op then t.sp else s.sp
    pc := if writesPc op then t.pc else s.pc }

/-- The next state an execution answers, and `s` if it answered none. -/
def nextOr (s : State) : Result → State
  | .next t => t
  | _ => s

/-- All that executing an instruction can do, whatever the control part of the state. Every arm of `exec` is a composition
of named updates, so both sides compute to the same state once a conditional instruction knows its flag. -/
theorem exec_effect (i : Instr) (s : State) : ∃ u, ∀ c : Control,
    exec i (withControl s c) = .next (withControl (restrictWrites (opcodeOf i) s u) (c.after i)) := by
  refine ⟨nextOr s (exec i s), fun c => ?_⟩
  obtain ⟨regs, sp, pc, ⟨z, sign, p, cy, ac⟩, w, zl, ir, inte, halted, mem, bus, reads⟩ := s
  cases i <;> dsimp only [opcodeOf, encode, List.headD_cons]
  case jnz | jz | cnz | cz | rnz | rz => cases z <;> rfl
  case jnc | jc | cnc | cc | rnc | rc => cases cy <;> rfl
  case jpo | jpe | cpo | cpe | rpo | rpe => cases p <;> rfl
  case jp | jm | cp | cm | rp | rm => cases sign <;> rfl
  all_goals rfl

/-- The next state differs from the old one only in what the rules let the instruction write. -/
theorem exec_next_eq {i : Instr} {s t : State} (h : exec i s = .next t) :
    ∃ u, t = withControl (restrictWrites (opcodeOf i) s u) ((controlOf s).after i) := by
  obtain ⟨u, effect⟩ := exec_effect i s
  have next := effect (controlOf s)
  rw [withControl_controlOf, h] at next
  exact ⟨u, Host.Outcome.next.inj next⟩

/-- Settles O12: the frame of `exec`, read off at the five flags. -/
theorem flagsAreWrittenOnlyByTheirInstructions : Obligations.FlagsAreWrittenOnlyByTheirInstructions := by
  intro i s t h
  obtain ⟨u, rfl⟩ := exec_next_eq h
  refine ⟨fun unwritten => ?_, fun unwritten => ?_⟩ <;> simp [withControl, restrictWrites, unwritten]

/-- Settles O13: the frame of `exec`, read off at SP and PC. -/
theorem spAndPcAreWrittenOnlyByTheirInstructions : Obligations.SpAndPcAreWrittenOnlyByTheirInstructions := by
  intro i s t h
  obtain ⟨u, rfl⟩ := exec_next_eq h
  refine ⟨fun unwritten => ?_, fun unwritten => ?_⟩ <;> simp [withControl, restrictWrites, unwritten]

/-! ### The decoder reads no byte the instruction does not have -/

/-- An instruction's bytes decode to it, whatever bytes follow; a 16-bit operand is put together from its two bytes. -/
theorem decode_encode_append (i : Instr) (rest : List Byte) : decode (encode i ++ rest) = .ok (i, rest) := by
  cases i
  case lxiB d16 | lxiD d16 | lxiH d16 | lxiSp d16 | shld d16 | lhld d16 | sta d16 | lda d16 | jmp d16 | jmpCB d16
      | jnz d16 | jz d16 | jnc d16 | jc d16 | jpo d16 | jpe d16 | jp d16 | jm d16 | call d16 | callDD d16 | callED d16
      | callFD d16 | cnz d16 | cz d16 | cnc d16 | cc d16 | cpo d16 | cpe d16 | cp d16 | cm d16 =>
    conv_rhs => rw [← wordOf_hiByte_loByte d16]
    rfl
  all_goals rfl

theorem encode_injective : Function.Injective encode := by
  intro i j h
  have decoded := decode_encode_append i []
  rw [h, decode_encode_append j []] at decoded
  simpa using decoded.symm

/-- Decoding depends on the opcode and the operand bytes it counts (30_encoding.md R104). -/
theorem decodeOpcode_congr {op z w z' w' : Byte}
    (h : [z, w].take (operandCount op) = [z', w'].take (operandCount op)) :
    decodeOpcode op z w = decodeOpcode op z' w' :=
  encode_injective (by rw [encode_decodeOpcode, encode_decodeOpcode, h])

theorem decodeOpcode_eq_hlt_iff (op z w : Byte) : decodeOpcode op z w = .hlt ↔ op = 0x76 := by
  constructor
  · intro h
    have bytes := encode_decodeOpcode op z w
    rw [h] at bytes
    exact (List.cons.inj bytes).1.symm
  · rintro rfl
    rfl

/-! ### What a step can do -/

/-- The control part after the fetch in `s`: the opcode in IR, the operand bytes in the latches they have. -/
def Control.fetching (c : Control) (s : State) : Control :=
  { c with
    ir := s.mem.read s.pc
    zLatch := if operandCount (s.mem.read s.pc) = 0 then c.zLatch else s.mem.read (s.pc + 1)
    wLatch := if operandCount (s.mem.read s.pc) = 2 then s.mem.read (s.pc + 2) else c.wLatch }

/-- The control part decides neither which instruction is fetched nor what else the fetch does. -/
theorem fetch_withControl (s : State) (c : Control) :
    fetch (withControl s c) = ((fetch s).1, withControl (fetch s).2 (c.fetching s)) := by
  rw [fetch_eq, fetch_eq]
  refine Prod.ext (decodeOpcode_congr ?_) rfl
  obtain h | h | h := operandCount_cases (s.mem.read s.pc) <;> simp [withControl, h]

theorem fetch_eq_hlt_iff (s : State) : (fetch s).1 = .hlt ↔ s.mem.read s.pc = 0x76 := by
  rw [fetch_eq]
  exact decodeOpcode_eq_hlt_iff _ _ _

theorem step_of_halted {s : State} (h : s.halted = true) : step s = .next s := by
  simp [step, h]

/-- All that a step does with the control part of a machine that is not halted: the rest of the next state does not depend
on it. -/
theorem step_withControl (s : State) : ∃ t, ∀ c : Control, c.halted = false →
    step (withControl s c) = .next (withControl t ((c.fetching s).after (fetch s).1)) := by
  obtain ⟨u, effect⟩ := exec_effect (fetch s).1 (fetch s).2
  refine ⟨restrictWrites (opcodeOf (fetch s).1) (fetch s).2 u, fun c running => ?_⟩
  rw [step_eq_exec_fetch (s := withControl s c) running, fetch_withControl]
  exact effect _

/-- Settles O7: HALTED is part of the control part, which an execution of HLT alone sets. -/
theorem haltedIsWrittenByHltAndResetAndIsTerminal : Obligations.HaltedIsWrittenByHltAndResetAndIsTerminal := by
  refine ⟨fun s t h => ?written, fun _ => rfl, fun _ _ _ => rfl, fun _ => step_of_halted, fun _ => rfl⟩
  cases hs : s.halted with
  | true =>
    rw [step_of_halted hs] at h
    rw [← Host.Outcome.next.inj h, hs, Bool.true_or]
  | false =>
    obtain ⟨u, effect⟩ := step_withControl s
    have next := effect (controlOf s) hs
    rw [withControl_controlOf, h] at next
    rw [Host.Outcome.next.inj next]
    calc (((controlOf s).fetching s).after (fetch s).1).halted
        = (s.halted || decide ((fetch s).1 = .hlt)) := Control.after_halted _ _
      _ = (false || decide (s.mem.read s.pc = 0x76)) := by simp only [hs, fetch_eq_hlt_iff]

/-- Settles O14: INTE is part of the control part, which EI and DI alone write and no step reads. -/
theorem inteIsTrackedAndNotActedUpon : Obligations.InteIsTrackedAndNotActedUpon := by
  refine ⟨fun i s t h => ?written, fun _ => ⟨rfl, rfl⟩, fun s b => ?unread⟩
  case written =>
    obtain ⟨u, rfl⟩ := exec_next_eq h
    exact Control.after_inte _ _
  case unread =>
    obtain hs | hs := Bool.eq_false_or_eq_true s.halted
    · exact ⟨s, b, step_of_halted hs, step_of_halted (s := { s with inte := b }) hs⟩
    · obtain ⟨t, effect⟩ := step_withControl s
      exact ⟨_, _, effect (controlOf s) hs, effect { controlOf s with inte := b } hs⟩

/-- Settles O15: the latches and IR are part of the control part, which no step reads before the fetch has written it. -/
theorem latchesBetweenStepsAreUnobservable : Obligations.LatchesBetweenStepsAreUnobservable := by
  intro s w z ir
  obtain hs | hs := Bool.eq_false_or_eq_true s.halted
  · exact ⟨s, w, z, ir, step_of_halted hs,
      step_of_halted (s := { s with wLatch := w, zLatch := z, ir := ir }) hs⟩
  · obtain ⟨t, effect⟩ := step_withControl s
    exact ⟨_, _, _, _, effect (controlOf s) hs,
      effect { controlOf s with wLatch := w, zLatch := z, ir := ir } hs⟩

end Sys2Proof.Proofs
end

section
namespace Sys2Proof.Proofs

open Relation Sys2Proof.Machine Sys2Proof.Claims

/-! ### The bus side of the state -/

/-- The part of the state that transactions act on: memory, the history and the count of port reads. -/
structure BusSide where
  mem : Memory
  history : List BusEvent
  portReads : Nat

/-- The bus side of a state. -/
def busSide (s : State) : BusSide := { mem := s.mem, history := s.bus, portReads := s.portReads }

/-- One transaction on the two buses, recorded in the history (20_memory.md R61, R77). -/
inductive Transaction : BusSide → BusSide → Prop
  | memRead (b : BusSide) (a : Word) :
    Transaction b { b with history := b.history ++ [.memRead a (b.mem.read a)] }
  | memWrite (b : BusSide) (a : Word) (v : Byte) :
    Transaction b { b with mem := b.mem.write a v, history := b.history ++ [.memWrite a v] }
  | portIn (b : BusSide) (p v : Byte) :
    Transaction b { b with history := b.history ++ [.portIn p v], portReads := b.portReads + 1 }
  | portOut (b : BusSide) (p v : Byte) :
    Transaction b { b with history := b.history ++ [.portOut p v] }

/-- The bus side of `t` comes from that of `s` by transactions alone. -/
def Transacts (s t : State) : Prop := ReflTransGen Transaction (busSide s) (busSide t)

theorem Transacts.trans {s t u : State} (first : Transacts s t) (rest : Transacts t u) : Transacts s u :=
  ReflTransGen.trans first rest

/-- A change of registers, flags or control makes no transaction. -/
theorem Transacts.of_busSide_eq {s t : State} (h : busSide t = busSide s) : Transacts s t := by
  rw [Transacts, h]

/-! ### Each shared operation makes transactions alone -/

section
variable (s : State)

theorem memRead_transacts (a : Word) : Transacts s (memRead a s).2 := .single (.memRead _ a)

theorem memWrite_transacts (a : Word) (v : Byte) : Transacts s (memWrite a v s) := .single (.memWrite _ a v)

theorem memRead16_transacts (a : Word) : Transacts s (memRead16 a s).2 :=
  (memRead_transacts s a).trans (memRead_transacts _ (a + 1))

theorem memWrite16_transacts (a v : Word) : Transacts s (memWrite16 a v s) :=
  (memWrite_transacts s a _).trans (memWrite_transacts _ (a + 1) _)

theorem push16_transacts (v : Word) : Transacts s (push16 v s) :=
  (memWrite_transacts s (s.sp - 1) _).trans (memWrite_transacts _ (s.sp - 2) _)

theorem pop16_transacts : Transacts s (pop16 s).2 := memRead16_transacts s s.sp

theorem portIn_transacts (p : Byte) : Transacts s (portIn p s).2 := .single (.portIn _ p _)

theorem portOut_transacts (p v : Byte) : Transacts s (portOut p v s) := .single (.portOut _ p v)

theorem jumpIf_transacts (ccc : Cond) (a16 : Word) : Transacts s (nextOr s (jumpIf ccc a16 s)) := by
  rw [jumpIf]
  split
  · exact .of_busSide_eq rfl
  · exact .of_busSide_eq rfl

theorem callIf_transacts (ccc : Cond) (a16 : Word) : Transacts s (nextOr s (callIf ccc a16 s)) := by
  rw [callIf]
  split
  · exact push16_transacts s s.pc
  · exact .of_busSide_eq rfl

theorem returnIf_transacts (ccc : Cond) : Transacts s (nextOr s (returnIf ccc s)) := by
  rw [returnIf]
  split
  · exact pop16_transacts s
  · exact .of_busSide_eq rfl

end

/-! ### Each phase of a step makes transactions alone -/

/-- Executing an instruction: those with a memory operand, the stack and the ports by their shared operation, all others
leave the bus side alone. -/
theorem exec_transacts (i : Instr) (s : State) : Transacts s (nextOr s (exec i s)) := by
  cases i
  case movBM | movCM | movDM | movEM | movHM | movLM | movAM | addM | adcM | subM | sbbM | anaM | xraM | oraM | cmpM =>
    exact memRead_transacts s (s.pair .hl)
  case movMB | movMC | movMD | movME | movMH | movML | movMA | mviM => exact memWrite_transacts s (s.pair .hl) _
  case inrM | dcrM => exact (memRead_transacts s (s.pair .hl)).trans (memWrite_transacts _ (s.pair .hl) _)
  case ldaxB => exact memRead_transacts s (s.pair .bc)
  case ldaxD => exact memRead_transacts s (s.pair .de)
  case lda a16 => exact memRead_transacts s a16
  case staxB => exact memWrite_transacts s (s.pair .bc) _
  case staxD => exact memWrite_transacts s (s.pair .de) _
  case sta a16 => exact memWrite_transacts s a16 _
  case lhld a16 => exact memRead16_transacts s a16
  case shld a16 => exact memWrite16_transacts s a16 _
  case xthl => exact (memRead16_transacts s s.sp).trans (memWrite16_transacts _ s.sp _)
  case pushB | pushD | pushH | pushPsw | call | callDD | callED | callFD
      | rst0 | rst1 | rst2 | rst3 | rst4 | rst5 | rst6 | rst7 =>
    exact push16_transacts s _
  case popB | popD | popH | popPsw | ret | retD9 => exact pop16_transacts s
  case jnz a16 | jz a16 | jnc a16 | jc a16 | jpo a16 | jpe a16 | jp a16 | jm a16 => exact jumpIf_transacts s _ a16
  case cnz a16 | cz a16 | cnc a16 | cc a16 | cpo a16 | cpe a16 | cp a16 | cm a16 => exact callIf_transacts s _ a16
  case rnz | rz | rnc | rc | rpo | rpe | rp | rm => exact returnIf_transacts s _
  case inPort p => exact portIn_transacts s p
  case outPort p => exact portOut_transacts s p _
  all_goals exact .of_busSide_eq rfl

theorem fetchOperands_transacts (count : Nat) (s : State) : Transacts s (fetchOperands count s) :=
  match count with
  | 0 => .of_busSide_eq rfl
  | 1 => memRead_transacts s s.pc
  | _ + 2 => (memRead_transacts s s.pc).trans (memRead_transacts (fetchFirstOperand s) _)

theorem fetch_transacts (s : State) : Transacts s (fetch s).2 :=
  (memRead_transacts s s.pc).trans (fetchOperands_transacts _ (fetchOpcode s))

/-- All that a step does with memory, the history and the count of port reads. -/
theorem step_transacts {s t : State} (h : step s = .next t) : Transacts s t := by
  cases hs : s.halted with
  | true =>
    rw [step_of_halted hs] at h
    exact .of_busSide_eq (congrArg busSide (Host.Outcome.next.inj h).symm)
  | false =>
    rw [step_eq_exec_fetch hs] at h
    have executed := exec_transacts (fetch s).1 (fetch s).2
    rw [h] at executed
    exact (fetch_transacts s).trans executed

/-! ### What transactions keep (20_memory.md R60, R61, R71; D21) -/

theorem portReadsIn_append (before after : List BusEvent) :
    portReadsIn (before ++ after) = portReadsIn before + portReadsIn after := by
  induction before with
  | nil => simp [portReadsIn]
  | cons e before ih => cases e <;> simp [portReadsIn, ih, Nat.add_right_comm]

/-- `State.Inv` as a property of the bus side. -/
def BusSide.Inv (b : BusSide) : Prop := b.mem.wf = true ∧ b.portReads = portReadsIn b.history

theorem inv_iff_busSide_inv (s : State) : s.Inv ↔ (busSide s).Inv := Iff.rfl

theorem Transaction.keeps_inv {b b' : BusSide} (h : Transaction b b') (inv : b.Inv) : b'.Inv := by
  obtain ⟨canonical, counted⟩ := inv
  have grown (events : List BusEvent) : b.portReads + portReadsIn events = portReadsIn (b.history ++ events) := by
    rw [portReadsIn_append, counted]
  cases h with
  | memRead a => exact ⟨canonical, grown [.memRead a _]⟩
  | memWrite a v => exact ⟨Memory.wf_write canonical a v, grown [.memWrite a v]⟩
  | portIn p v => exact ⟨canonical, grown [.portIn p v]⟩
  | portOut p v => exact ⟨canonical, grown [.portOut p v]⟩

theorem transactions_keep_inv {b b' : BusSide} (h : ReflTransGen Transaction b b') (inv : b.Inv) : b'.Inv := by
  induction h with
  | refl => exact inv
  | tail _ last ih => exact last.keeps_inv ih

/-- Settles O10: a step is a sequence of transactions, and each transaction keeps the invariant. -/
theorem stepKeepsInvariant : Obligations.StepKeepsInvariant := by
  intro s t inv h
  rw [inv_iff_busSide_inv] at inv ⊢
  exact transactions_keep_inv (step_transacts h) inv

/-- A memory write sets its cell as `Replays` does. -/
theorem read_write_eq_update (m : Memory) (a : Word) (v : Byte) :
    (m.write a v).read = fun x => if x = a then v else m.read x :=
  funext fun x => Memory.read_write m a x v

/-- A transaction appends one event, and its replay takes the memory before it to the memory after it. -/
theorem Transaction.replays {b b' : BusSide} (h : Transaction b b') : ∃ e, b'.history = b.history ++ [e] ∧
    ∀ events m, Replays b'.mem.read events m → Replays b.mem.read (e :: events) m := by
  cases h with
  | memRead a => exact ⟨_, rfl, fun _ _ rest => ⟨rfl, rest⟩⟩
  | memWrite a v => exact ⟨_, rfl, fun _ _ rest => by rwa [read_write_eq_update] at rest⟩
  | portIn p v => exact ⟨_, rfl, fun _ _ rest => rest⟩
  | portOut p v => exact ⟨_, rfl, fun _ _ rest => rest⟩

/-- The history grows by the transactions made, and they replay from the first on. -/
theorem transactions_replay {b b' : BusSide} (h : ReflTransGen Transaction b b') :
    ∃ events, b'.history = b.history ++ events ∧ Replays b.mem.read events b'.mem.read := by
  induction h using ReflTransGen.head_induction_on with
  | refl => exact ⟨[], (List.append_nil _).symm, fun _ => rfl⟩
  | head first _ ih =>
    obtain ⟨e, recorded, replayed⟩ := first.replays
    obtain ⟨events, grown, rest⟩ := ih
    exact ⟨e :: events, by rw [grown, recorded, List.append_assoc]; rfl, replayed events _ rest⟩

/-- Settles O11: a step is a sequence of transactions. -/
theorem historyAccountsForMemory : Obligations.HistoryAccountsForMemory := fun _ _ h =>
  transactions_replay (step_transacts h)

/-- Settles O23: a read records its transaction alone; a write changes the cell it names. -/
theorem memoryBusReadsAndWritesOneCell : Obligations.MemoryBusReadsAndWritesOneCell := fun a v s =>
  ⟨⟨_, memRead_eq a s⟩, _, _, memWrite_eq a v s, Memory.read_write_self s.mem a v,
    fun _ other => Memory.read_write_other s.mem v other, rfl⟩

/-! ### PUSH, then POP (20_memory.md R80, R81) -/

/-- The word that PUSH of a pair or PSW stores (44_stack.md R271, R272). -/
def stackWord (p : StackPair) (s : State) : Word :=
  match p with
  | .bc => s.pair .bc
  | .de => s.pair .de
  | .hl => s.pair .hl
  | .psw => s.psw

/-- The state with the word that POP takes off the stack in its pair or PSW (R273, R274). -/
def setStackWord (p : StackPair) (v : Word) (s : State) : State :=
  match p with
  | .bc => s.setPair .bc v
  | .de => s.setPair .de v
  | .hl => s.setPair .hl v
  | .psw => (s.setFlags (Flags.ofByte (loByte v))).setReg .a (hiByte v)

theorem exec_pushOf (p : StackPair) (s : State) : exec (pushOf p) s = .next (push16 (stackWord p s) s) := by
  cases p <;> rfl

theorem exec_popOf (p : StackPair) (s : State) :
    exec (popOf p) s = .next (setStackWord p (pop16 s).1 (pop16 s).2) := by
  cases p <;> rfl

theorem setStackWord_sp (p : StackPair) (v : Word) (s : State) : (setStackWord p v s).sp = s.sp := by
  cases p <;> rfl

/-- Writing the flags and A from a PSW word restores them: packing loses no flag. -/
theorem setStackWord_psw (s t : State) :
    (setStackWord .psw s.psw t).regs.a = s.regs.a ∧ (setStackWord .psw s.psw t).flags = s.flags := by
  simp [setStackWord, State.psw, Regs.set, ofByte_flagsByte]

/-- A pop where a push left SP and memory takes off the word pushed, and SP is back. -/
theorem pop16_after_push16 {v : Word} {s u : State} (hsp : u.sp = (push16 v s).sp) (hmem : u.mem = (push16 v s).mem) :
    (pop16 u).1 = v ∧ (pop16 u).2.sp = s.sp := by
  simp only [push16_eq] at hsp hmem
  have high_address : s.sp - 2 + 1 = s.sp - 1 := by bv_omega
  have apart : s.sp - 1 ≠ s.sp - 2 := by bv_omega
  have back : s.sp - 2 + 2 = s.sp := by bv_omega
  rw [pop16_eq, hsp, hmem, high_address, back, Memory.read_write_self, Memory.read_write_other _ _ apart,
    Memory.read_write_self, wordOf_hiByte_loByte]
  exact ⟨rfl, rfl⟩

/-- Settles O54: POP takes off the word that PUSH stored and writes it where it came from. -/
theorem pushThenPopRestores : Obligations.PushThenPopRestores := by
  intro p s t u pushed hsp hmem
  rw [exec_pushOf] at pushed
  obtain rfl := Host.Outcome.next.inj pushed
  obtain ⟨word, sp_back⟩ := pop16_after_push16 hsp hmem
  refine ⟨_, exec_popOf p u, (setStackWord_sp p _ _).trans sp_back, ?_⟩
  rw [word]
  cases p with
  | bc | de | hl => simp only [setStackWord, stackWord, State.pair_setPair_self]
  | psw => exact setStackWord_psw s _

end Sys2Proof.Proofs
end

section
namespace Sys2Proof.Proofs

open Sys2Proof.Machine Sys2Proof.Claims

/-! ### Decoding and encoding (30_encoding.md R90 to R104) -/

/-- Settles O1: the round trip of every constructor, through the bytes of its operand. -/
theorem decodeOfEncodeIsIdentity : Obligations.DecodeOfEncodeIsIdentity := decode_encode_append

/-- The decoder's table is onto the well-formed byte strings. -/
theorem exists_encode_eq {bytes : List Byte} (h : wellFormedBytes bytes = true) : ∃ i, encode i = bytes := by
  match bytes with
  | op :: rest =>
    have length_rest : rest.length = operandCount op := beq_iff_eq.mp h
    match rest with
    | [] => exact ⟨decodeOpcode op 0 0, by simp [encode_decodeOpcode, ← length_rest]⟩
    | [z] => exact ⟨decodeOpcode op z 0, by simp [encode_decodeOpcode, ← length_rest]⟩
    | [z, w] => exact ⟨decodeOpcode op z w, by simp [encode_decodeOpcode, ← length_rest]⟩
    | _ :: _ :: _ :: more =>
      have at_most_two := operandCount_cases op
      simp only [List.length_cons] at length_rest
      omega

/-- Settles O2: the bytes are an encoding, the round trip decodes them, and encoding is injective. -/
theorem encodeOfDecodeIsIdentity : Obligations.EncodeOfDecodeIsIdentity := by
  intro bytes h
  obtain ⟨i, rfl⟩ := exists_encode_eq h
  have decoded := decode_encode_append i []
  rw [List.append_nil] at decoded
  exact ⟨i, decoded, rfl, fun k same => encode_injective same⟩

/-- Settles O4: both sides are functions of one byte, compared at its 256 values. -/
theorem operandCountsFollowLengthTable : Obligations.OperandCountsFollowLengthTable := by
  unfold Obligations.OperandCountsFollowLengthTable
  decide +kernel

/-! ### Aliases (R97, R103, R250, R292) -/

/-- The aliases of NOP, and SIM, which the source lists among them. -/
theorem exec_nopAlias (s : State) {i : Instr}
    (h : i ∈ ([.nop08, .nop10, .nop18, .nop28, .sim, .nop38] : List Instr)) : exec i s = .next s := by
  fin_cases h <;> rfl

/-- Settles O5: each alias is an arm of its own over the operation of its target. -/
theorem aliasesBehaveAsTheirTargets : Obligations.AliasesBehaveAsTheirTargets := by
  intro s a16
  refine ⟨⟨rfl, rfl, rfl, rfl, rfl, rfl, fun i h => ?nop⟩, ⟨rfl, rfl, rfl⟩, ⟨rfl, rfl⟩, ⟨rfl, rfl⟩, ⟨rfl, rfl⟩,
    ⟨rfl, rfl⟩⟩
  case nop => exact ⟨exec_nopAlias s h, exec_nopAlias s h⟩

/-- What the decoder gives the six opcodes that the source states as NOP. -/
theorem decodeOpcode_nopAlias {op : Byte} (z w : Byte)
    (h : op ∈ ([0x08, 0x10, 0x18, 0x28, 0x30, 0x38] : List Byte)) :
    decodeOpcode op z w ∈ ([.nop08, .nop10, .nop18, .nop28, .sim, .nop38] : List Instr) := by
  have decoded : ([0x08, 0x10, 0x18, 0x28, 0x30, 0x38] : List Byte).map (decodeOpcode · z w) =
      [.nop08, .nop10, .nop18, .nop28, .sim, .nop38] := rfl
  rw [← decoded]
  exact List.mem_map_of_mem h

/-- Settles O3: the named opcodes by evaluation of the decoder, the repeated ones as aliases. -/
theorem sourceStatedOpcodesDecode : Obligations.SourceStatedOpcodesDecode := by
  intro z w s
  refine ⟨rfl, rfl, rfl, rfl, rfl, rfl, rfl, rfl, fun op h => ?nop, rfl, rfl, fun op h => ?call⟩
  case nop => exact exec_nopAlias s (decodeOpcode_nopAlias z w h)
  case call => fin_cases h <;> rfl

/-! ### The step is total (R105) -/

theorem exec_eq_next (i : Instr) (s : State) : ∃ t, exec i s = .next t := by
  obtain ⟨u, effect⟩ := exec_effect i s
  exact ⟨_, effect (controlOf s)⟩

/-- Settles O8: a halted machine stays, any other one executes, and `exec` answers a next state for every instruction. -/
theorem everyStateSteps : Obligations.EveryStateSteps := by
  intro s
  cases hs : s.halted with
  | true => exact ⟨s, step_of_halted hs⟩
  | false =>
    obtain ⟨t, executed⟩ := exec_eq_next (fetch s).1 (fetch s).2
    exact ⟨t, by rw [step_eq_exec_fetch hs, executed]⟩

/-! ### The instruction that stands at PC (R93, R105) -/

/-- No encoding begins another one. -/
theorem eq_of_take_encode {i j : Instr} {n : Nat} (h : (encode j).take n = encode i) : i = j := by
  have split : encode i ++ (encode j).drop n = encode j ++ [] := by
    rw [← h, List.take_append_drop, List.append_nil]
  have decoded := decode_encode_append i ((encode j).drop n)
  rw [split, decode_encode_append j []] at decoded
  exact (Prod.mk.inj (Except.ok.inj decoded)).1.symm

/-- At most one instruction stands at PC. -/
theorem standsAtPc_unique {i j : Instr} {s : State} (hi : StandsAtPc i s) (hj : StandsAtPc j s) : i = j := by
  wlog shorter : (encode i).length ≤ (encode j).length generalizing i j
  · exact (this hj hi (Nat.le_of_not_le shorter)).symm
  refine eq_of_take_encode (List.ext_getElem (List.length_take_of_le shorter) fun k _ hk => ?_)
  calc ((encode j).take (encode i).length)[k]
      = (encode j).getD k 0 := by rw [List.getElem_take, List.getD_eq_getElem]
    _ = (encode i).getD k 0 := (hj k (hk.trans_le shorter)).symm.trans (hi k hk)
    _ = (encode i)[k] := List.getD_eq_getElem _ 0 hk

/-- The fetch decodes the bytes at PC, as many as the opcode there counts. -/
theorem encode_fetch (s : State) :
    encode (fetch s).1 = s.mem.read s.pc ::
      [s.mem.read (s.pc + 1), s.mem.read (s.pc + 2)].take (operandCount (s.mem.read s.pc)) := by
  rw [fetch_eq, encode_decodeOpcode]
  obtain h | h | h := operandCount_cases (s.mem.read s.pc) <;> simp [h]

/-- The instruction that the fetch decodes stands at PC. -/
theorem standsAtPc_fetch (s : State) : StandsAtPc (fetch s).1 s := by
  intro k hk
  have counted := operandCount_cases (s.mem.read s.pc)
  have length_encode : (encode (fetch s).1).length = 1 + min (operandCount (s.mem.read s.pc)) 2 := by
    simp [encode_fetch, Nat.add_comm]
  have short : k < 3 := by omega
  rw [List.getD_eq_getElem _ 0 hk]
  simp only [encode_fetch]
  interval_cases k <;> simp

/-- The fetch leaves the state that `fetched` gives its instruction. -/
theorem fetch_eq_fetched (s : State) : (fetch s).2 = fetched (fetch s).1 s := by
  rw [fetched, encode_fetch, fetch_eq]
  obtain h | h | h := operandCount_cases (s.mem.read s.pc) <;> simp [h]

/-- Settles O6: the instruction at PC is the one that the fetch decodes. -/
theorem stepRunsTheInstructionAtPc : Obligations.StepRunsTheInstructionAtPc := by
  refine ⟨fun i s running stands => ?runs, fun s => ⟨_, standsAtPc_fetch s⟩⟩
  obtain rfl := standsAtPc_unique stands (standsAtPc_fetch s)
  rw [step_eq_exec_fetch running, fetch_eq_fetched]

end Sys2Proof.Proofs
end

section
namespace Sys2Proof.Proofs

open Sys2Proof.Machine Sys2Proof.Claims

/-! ### MOV and MVI (40_data_transfer.md R121 to R125) -/

/-- The fields of the opcode byte, HLT being the byte that MOV M,M would have (30_encoding.md R96). -/
theorem encode_movOf (dst src : Operand8) :
    encode (movOf dst src) = [0b01#2 ++ operandCode dst ++ operandCode src] := by
  obtain ((_ | _ | _ | _ | _ | _ | _) | _) := dst <;> obtain ((_ | _ | _ | _ | _ | _ | _) | _) := src <;> rfl

theorem encode_mviOf (dst : Operand8) (d8 : Byte) :
    encode (mviOf dst d8) = [0b00#2 ++ operandCode dst ++ 0b110#3, d8] := by
  obtain ((_ | _ | _ | _ | _ | _ | _) | _) := dst <;> rfl

/-- An execution that ends in one memory write stores one byte. -/
theorem storesByte_of_exec_eq_memWrite {i : Instr} {addr : Word} {v : Byte} {s : State}
    (h : exec i s = .next (memWrite addr v s)) : StoresByte i addr v s :=
  ⟨_, h, fun x => Memory.read_write s.mem addr x v, memWrite_eq addr v s⟩

/-- An execution that ends in one register write from a state `u` leaves the other registers
and the rest of `u` alone. -/
theorem frame_of_exec_eq_setReg {i : Instr} {dst : Reg8} {v : Byte} {s u : State}
    (h : exec i s = .next (u.setReg dst v)) :
    ∃ t, exec i s = .next t ∧ t.regs.get dst = v ∧ (∀ r, r ≠ dst → t.regs.get r = u.regs.get r) ∧
      t = { u with regs := t.regs } :=
  ⟨_, h, Regs.get_set_self u.regs dst v, fun _ other => Regs.get_set_other u.regs v other, rfl⟩

/-- MOV to a register writes the value of the source, after the source's transactions. -/
theorem exec_movOf_reg (dst : Reg8) (src : Operand8) (s : State) :
    exec (movOf (.reg dst) src) s = .next ((readOperand src s).2.setReg dst (readOperand src s).1) :=
  exec_movOf (.reg dst) src s fun ⟨memory, _⟩ => nomatch memory

/-- MOV to M writes the register at HL. -/
theorem exec_movOf_mem (src : Reg8) (s : State) :
    exec (movOf .mem (.reg src)) s = .next (memWrite (s.pair .hl) (s.regs.get src) s) :=
  exec_movOf .mem (.reg src) s fun ⟨_, memory⟩ => nomatch memory

/-- Settles O24: a register destination by its register write, M by its memory write. -/
theorem movCopiesItsSource : Obligations.MovCopiesItsSource :=
  ⟨fun dst src s => ⟨encode_movOf (.reg dst) (.reg src),
      frame_of_exec_eq_setReg (exec_movOf_reg dst (.reg src) s)⟩,
    fun dst s => ⟨encode_movOf (.reg dst) .mem, frame_of_exec_eq_setReg (exec_movOf_reg dst .mem s)⟩,
    fun src s => ⟨encode_movOf .mem (.reg src), storesByte_of_exec_eq_memWrite (exec_movOf_mem src s)⟩⟩

/-- Settles O25: a register destination by its register write, M by its memory write. -/
theorem mviWritesImmediate : Obligations.MviWritesImmediate :=
  ⟨fun dst d8 s => ⟨encode_mviOf (.reg dst) d8, frame_of_exec_eq_setReg (exec_mviOf (.reg dst) d8 s)⟩,
    fun d8 s => ⟨encode_mviOf .mem d8, storesByte_of_exec_eq_memWrite (exec_mviOf .mem d8 s)⟩⟩

/-! ### LXI (R126) -/

theorem encode_lxiOf (p : Pair) (d16 : Word) :
    encode (lxiOf p d16) = [0b00#2 ++ pairCode p ++ 0b0001#4, loByte d16, hiByte d16] := by
  cases p <;> rfl

/-- Settles O26: LXI is one pair write. -/
theorem lxiLoadsPair : Obligations.LxiLoadsPair := by
  intro p d16 s
  obtain ⟨frame, a_kept⟩ := s.setPair_eq p d16
  exact ⟨encode_lxiOf p d16, _, exec_lxiOf p d16 s, s.pair_setPair_self p d16,
    fun _ other => s.pair_setPair_other d16 other, a_kept, frame⟩

/-! ### Loads and stores of A (R127 to R130, R133, R134) -/

/-- Settles O27: each is one memory write, at its own address. -/
theorem staxAndStaStoreA : Obligations.StaxAndStaStoreA := fun _ _ =>
  ⟨⟨rfl, storesByte_of_exec_eq_memWrite rfl⟩, ⟨rfl, storesByte_of_exec_eq_memWrite rfl⟩,
    ⟨rfl, storesByte_of_exec_eq_memWrite rfl⟩⟩

/-- A load of A is one memory read and one register write. -/
theorem loadA_eq (addr : Word) (s : State) :
    loadA addr s = .next { s with
      regs := { s.regs with a := s.mem.read addr }, bus := s.bus ++ [.memRead addr (s.mem.read addr)] } := rfl

/-- Settles O28: each is a load of A from its own address. -/
theorem ldaxAndLdaLoadA : Obligations.LdaxAndLdaLoadA := fun a16 s =>
  ⟨⟨rfl, loadA_eq (s.pair .bc) s⟩, ⟨rfl, loadA_eq (s.pair .de) s⟩, ⟨rfl, loadA_eq a16 s⟩⟩

/-! ### SHLD, LHLD and XCHG (R131, R132, R135) -/

/-- A 16-bit write changes the two cells of its word; they differ even where the second one wraps to address 0. -/
theorem holdsWord_memWrite16 (a v : Word) (s : State) : HoldsWord (memWrite16 a v s) s a v := by
  intro x
  rw [memWrite16_eq, Memory.read_write, Memory.read_write]
  by_cases low : x = a <;> simp [low]

theorem read_low_of_holdsWord {t s : State} {a v : Word} (h : HoldsWord t s a v) : t.mem.read a = loByte v :=
  (h a).trans (if_pos rfl)

theorem read_high_of_holdsWord {t s : State} {a v : Word} (h : HoldsWord t s a v) : t.mem.read (a + 1) = hiByte v := by
  simpa using h (a + 1)

theorem exec_shld (a16 : Word) (s : State) : exec (.shld a16) s = .next (memWrite16 a16 (s.pair .hl) s) := rfl

theorem exec_lhld (a16 : Word) (s : State) :
    exec (.lhld a16) s = .next { s with
      regs := { s.regs with l := s.mem.read a16, h := s.mem.read (a16 + 1) }, bus := s.bus ++ wordReads s a16 } := by
  have unfolded : exec (.lhld a16) s = .next ((memRead16 a16 s).2.setPair .hl (memRead16 a16 s).1) := rfl
  rw [unfolded, memRead16_eq]
  simp [State.setPair, State.setRegs, wordReads]

/-- LHLD where the two bytes of a word stand, the low one first, loads that word. -/
theorem exec_lhld_loads_word {a16 v : Word} {u : State} (low : u.mem.read a16 = loByte v)
    (high : u.mem.read (a16 + 1) = hiByte v) : ∃ t, exec (.lhld a16) u = .next t ∧ t.pair .hl = v :=
  ⟨_, exec_lhld a16 u, (congrArg₂ wordOf high low).trans (wordOf_hiByte_loByte v)⟩

/-- Settles O29: SHLD is a 16-bit write of HL, and LHLD reads the two cells that it wrote. -/
theorem shldAndLhldMoveHl : Obligations.ShldAndLhldMoveHl := by
  intro a16 s
  have written := holdsWord_memWrite16 a16 (s.pair .hl) s
  refine ⟨⟨rfl, _, exec_shld a16 s, ?stored, ?frame, fun u low high => ?restored⟩, rfl, exec_lhld a16 s⟩
  case stored => simpa [HoldsWord, State.pair] using written
  case frame => simp [memWrite16_eq, State.pair]
  case restored =>
    exact exec_lhld_loads_word (low.trans (read_low_of_holdsWord written)) (high.trans (read_high_of_holdsWord written))

theorem exec_xchg (s : State) :
    exec .xchg s = .next { s with
      regs := { s.regs with h := s.regs.d, l := s.regs.e, d := s.regs.h, e := s.regs.l } } := by
  have unfolded : exec .xchg s = .next ((s.setPair .hl (s.pair .de)).setPair .de (s.pair .hl)) := rfl
  rw [unfolded]
  simp [State.setPair, State.pair, State.setRegs]

/-- Settles O30: the swap of the four registers, and the swap of the swapped ones. -/
theorem xchgSwapsHlAndDe : Obligations.XchgSwapsHlAndDe := fun s =>
  ⟨rfl, _, exec_xchg s, rfl, exec_xchg _⟩

end Sys2Proof.Proofs
end

section
namespace Sys2Proof.Proofs

open Sys2Proof.Machine Sys2Proof.Claims

/-! ### `Sub8` (41_arithmetic.md R152) -/

section
variable (a b : Byte) (bin : Bool)

theorem sub8_res_toNat :
    ((sub8 a b bin).res.toNat : Int) = ((a.toNat : Int) - b.toNat - bin.toNat) % 256 := by
  simp only [sub8, BitVec.toNat_ofInt]
  omega

theorem sub8_cy_iff : (sub8 a b bin).cy = true ↔ a.toNat < b.toNat + bin.toNat := by
  simp only [sub8, decide_eq_true_iff]
  omega

theorem sub8_ac_iff : (sub8 a b bin).ac = true ↔ a.toNat % 16 < b.toNat % 16 + bin.toNat := by
  simp only [sub8, decide_eq_true_iff]
  omega

/-- Adding the operand and the borrow back gives A again. -/
theorem add8_sub8_res : (add8 (sub8 a b bin).res b bin).res = a := by
  apply BitVec.eq_of_toNat_eq
  have difference := sub8_res_toNat a b bin
  have a_lt := a.isLt
  rw [add8_res_toNat]
  omega

/-- The borrow out of bit 3 is the carry out of bit 3 of the addition that undoes the subtraction. -/
theorem add8_sub8_ac : (add8 (sub8 a b bin).res b bin).ac = (sub8 a b bin).ac := by
  have difference := sub8_res_toNat a b bin
  rw [Bool.eq_iff_iff, add8_ac_iff, sub8_ac_iff]
  omega

/-- `ac = (a ^ b ^ res)[4]`, from the same form of the carry of the addition that undoes the subtraction. -/
theorem sub8_ac_eq_xor_bit : (sub8 a b bin).ac = (a ^^^ b ^^^ (sub8 a b bin).res).getLsbD 4 := by
  rw [← add8_sub8_ac, add8_ac_eq_xor_bit, add8_sub8_res, BitVec.xor_comm _ a, BitVec.xor_comm _ b, BitVec.xor_assoc]

end

/-- The flags of an ALU result are `SetZSP` of the result byte with the two carries written. -/
theorem resultFlags_ofAlu (r : AluOut) : ResultFlags (Flags.ofAlu r) r.res :=
  resultFlags_setZSP { z := false, s := false, p := false, cy := r.cy, ac := r.ac } r.res

theorem subtractionFlags_sub8 (a b : Byte) (bin : Bool) :
    SubtractionFlags (Flags.ofAlu (sub8 a b bin)) a b bin (sub8 a b bin).res :=
  ⟨sub8_res_toNat a b bin, resultFlags_ofAlu _, sub8_cy_iff a b bin, sub8_ac_iff a b bin⟩

/-- Settles O40: the flags of `Sub8`, its borrow out of bit 7, and the exclusive-or form of the one out of bit 3. -/
theorem subEightBorrows : Obligations.SubEightBorrows := by
  intro a b bin
  have borrow : (sub8 a b bin).cy = decide (a.toNat < b.toNat + bin.toNat) := by
    rw [Bool.eq_iff_iff, sub8_cy_iff, decide_eq_true_iff]
  exact ⟨subtractionFlags_sub8 a b bin, borrow, sub8_ac_eq_xor_bit a b bin⟩

/-! ### The ALU group: what each family of 30_encoding.md R96 does to A and the flags -/

theorem encode_aluOf (op : AluOp) (src : Operand8) :
    encode (aluOf op src) = [0b10#2 ++ aluOpCode op ++ operandCode src] := by
  cases op <;> obtain ((_ | _ | _ | _ | _ | _ | _) | _) := src <;> rfl

/-- The operand's transactions come first; then the operation acts on the value read. -/
theorem exec_aluOf_eq_aluOnA (op : AluOp) (src : Operand8) (s : State) :
    exec (aluOf op src) s = .next (aluOnA op (operandValue src s) (s.record (operandBus src s))) := by
  rw [exec_aluOf, aluOperand, readOperand_eq]
  rfl

/-- An immediate operand makes no transaction in the execute phase. -/
theorem exec_aluImmOf_eq_aluOnA (op : AluOp) (d8 : Byte) (s : State) :
    exec (aluImmOf op d8) s = .next (aluOnA op d8 (s.record [])) := by
  rw [exec_aluImmOf, State.record, List.append_nil]

theorem aluOnA_record {op : AluOp} (writes : op ≠ .cmp) (v : Byte) (events : List BusEvent) (s : State) :
    aluOnA op v (s.record events) = { s with
      regs := { s.regs with a := (aluCompute op s.regs.a v s.flags.cy).res }
      flags := Flags.ofAlu (aluCompute op s.regs.a v s.flags.cy)
      bus := s.bus ++ events } := by
  cases op with
  | cmp => exact absurd rfl writes
  | _ => rfl

theorem aluOnA_cmp_record (v : Byte) (events : List BusEvent) (s : State) :
    aluOnA .cmp v (s.record events) = { s with
      flags := Flags.ofAlu (sub8 s.regs.a v false)
      bus := s.bus ++ events } := rfl

section
variable {i : Instr} {op : AluOp} {v : Byte} {c : Bool} {events : List BusEvent} {s : State}
  (executed : exec i s = .next (aluOnA op v (s.record events))) (writes : op ≠ .cmp)
include executed writes

theorem addsToA_of_exec_eq_aluOnA (computed : aluCompute op s.regs.a v s.flags.cy = add8 s.regs.a v c) :
    AddsToA i v c events s := by
  rw [aluOnA_record writes, computed] at executed
  exact ⟨_, executed, add8_res_toNat _ _ _, resultFlags_ofAlu _, add8_cy_iff _ _ _, add8_ac_iff _ _ _, rfl⟩

theorem subtractsFromA_of_exec_eq_aluOnA (computed : aluCompute op s.regs.a v s.flags.cy = sub8 s.regs.a v c) :
    SubtractsFromA i v c events s := by
  rw [aluOnA_record writes, computed] at executed
  exact ⟨_, executed, subtractionFlags_sub8 _ _ _, rfl⟩

end

theorem comparesWithA_of_exec_eq_aluOnA {i : Instr} {v : Byte} {events : List BusEvent} {s : State}
    (executed : exec i s = .next (aluOnA .cmp v (s.record events))) : ComparesWithA i v events s := by
  rw [aluOnA_cmp_record] at executed
  exact ⟨_, _, executed, subtractionFlags_sub8 _ _ _, rfl⟩

/-- Settles O31: each form is `Add8` of A and its operand, with CY as carry in for ADC and ACI. -/
theorem addsWriteSumAndFlags : Obligations.AddsWriteSumAndFlags := by
  refine ⟨fun src s => ?add, fun d8 s => ?adi, fun src s => ?adc, fun d8 s => ?aci⟩
  case add => exact ⟨encode_aluOf .add src, addsToA_of_exec_eq_aluOnA (exec_aluOf_eq_aluOnA .add src s) (by decide) rfl⟩
  case adi => exact ⟨rfl, addsToA_of_exec_eq_aluOnA (exec_aluImmOf_eq_aluOnA .add d8 s) (by decide) rfl⟩
  case adc => exact ⟨encode_aluOf .adc src, addsToA_of_exec_eq_aluOnA (exec_aluOf_eq_aluOnA .adc src s) (by decide) rfl⟩
  case aci => exact ⟨rfl, addsToA_of_exec_eq_aluOnA (exec_aluImmOf_eq_aluOnA .adc d8 s) (by decide) rfl⟩

/-- Settles O32: each form is `Sub8` of A and its operand, with CY as borrow in for SBB and SBI. -/
theorem subtractsWriteDifferenceAndFlags : Obligations.SubtractsWriteDifferenceAndFlags := by
  refine ⟨fun src s => ?sub, fun d8 s => ?sui, fun src s => ?sbb, fun d8 s => ?sbi⟩
  case sub =>
    exact ⟨encode_aluOf .sub src, subtractsFromA_of_exec_eq_aluOnA (exec_aluOf_eq_aluOnA .sub src s) (by decide) rfl⟩
  case sui => exact ⟨rfl, subtractsFromA_of_exec_eq_aluOnA (exec_aluImmOf_eq_aluOnA .sub d8 s) (by decide) rfl⟩
  case sbb =>
    exact ⟨encode_aluOf .sbb src, subtractsFromA_of_exec_eq_aluOnA (exec_aluOf_eq_aluOnA .sbb src s) (by decide) rfl⟩
  case sbi => exact ⟨rfl, subtractsFromA_of_exec_eq_aluOnA (exec_aluImmOf_eq_aluOnA .sbb d8 s) (by decide) rfl⟩

/-- A subtraction without borrow in gives zero exactly from equal operands. -/
theorem zero_iff_eq_of_subtractionFlags {f : Flags} {a v res : Byte} (h : SubtractionFlags f a v false res) :
    f.z = true ↔ a = v := by
  obtain ⟨difference, ⟨zero, -, -⟩, -, -⟩ := h
  have a_lt := a.isLt
  have v_lt := v.isLt
  rw [zero, BitVec.toNat_eq]
  simp only [Bool.toNat_false] at difference
  omega

/-- Settles O33: CMP and CPI are the subtraction with its result discarded. -/
theorem comparesWriteFlagsOnly : Obligations.ComparesWriteFlagsOnly := by
  have immediate (d8 : Byte) (s : State) : ComparesWithA (.cpi d8) d8 [] s :=
    comparesWithA_of_exec_eq_aluOnA (exec_aluImmOf_eq_aluOnA .cmp d8 s)
  refine ⟨fun src s => ?cmp, fun d8 s => ⟨rfl, immediate d8 s⟩, fun d8 s t executed => ?corner⟩
  case cmp => exact ⟨encode_aluOf .cmp src, comparesWithA_of_exec_eq_aluOnA (exec_aluOf_eq_aluOnA .cmp src s)⟩
  case corner =>
    obtain ⟨t', res, executed', flags, -⟩ := immediate d8 s
    obtain rfl := Host.Outcome.next.inj (executed.symm.trans executed')
    have equal := zero_iff_eq_of_subtractionFlags flags
    obtain ⟨-, -, below, -⟩ := flags
    exact ⟨equal, below⟩

/-! ### INR and DCR (R168 to R171) -/

theorem encode_inrOf (dst : Operand8) : encode (inrOf dst) = [0b00#2 ++ operandCode dst ++ 0b100#3] := by
  obtain ((_ | _ | _ | _ | _ | _ | _) | _) := dst <;> rfl

theorem encode_dcrOf (dst : Operand8) : encode (dcrOf dst) = [0b00#2 ++ operandCode dst ++ 0b101#3] := by
  obtain ((_ | _ | _ | _ | _ | _ | _) | _) := dst <;> rfl

theorem lowNibble_toNat (v : Byte) : (v &&& 0x0F).toNat = v.toNat % 16 :=
  Nat.and_two_pow_sub_one_eq_mod v.toNat 4

theorem lowNibble_beq_iff (v n : Byte) : (v &&& 0x0F == n) = true ↔ v.toNat % 16 = n.toNat := by
  rw [beq_iff_eq, BitVec.toNat_eq, lowNibble_toNat]

/-- `res` is `v + k` modulo 256, and the flags `f'` after `f` are those of INR or DCR with that result: AC tells whether the
low nibble of `v` was `nibble`, CY is kept. -/
def CountsTo (k nibble : Nat) (v res : Byte) (f f' : Flags) : Prop :=
  res.toNat = (v.toNat + k) % 256 ∧ ResultFlags f' res ∧ (f'.ac = true ↔ v.toNat % 16 = nibble) ∧ f'.cy = f.cy

theorem countsTo_afterInr (f : Flags) (v : Byte) : CountsTo 1 15 v (v + 1) f (f.afterInr v) :=
  ⟨BitVec.toNat_add v 1, resultFlags_setZSP f (v + 1), lowNibble_beq_iff v 0x0F, rfl⟩

theorem countsTo_afterDcr (f : Flags) (v : Byte) : CountsTo 255 0 v (v - 1) f (f.afterDcr v) := by
  refine ⟨?result, resultFlags_setZSP f (v - 1), lowNibble_beq_iff v 0x00, rfl⟩
  rw [BitVec.toNat_sub, Nat.add_comm]
  rfl

/-- Executing `i` counts the register `dst` by `k`, as the register forms of INR and DCR do. -/
def CountsRegister (i : Instr) (dst : Reg8) (k nibble : Nat) (s : State) : Prop :=
  ∃ t, exec i s = .next t ∧
    (t.regs.get dst).toNat = ((s.regs.get dst).toNat + k) % 256 ∧ (∀ r, r ≠ dst → t.regs.get r = s.regs.get r) ∧
    ResultFlags t.flags (t.regs.get dst) ∧ (t.flags.ac = true ↔ (s.regs.get dst).toNat % 16 = nibble) ∧
    t.flags.cy = s.flags.cy ∧ t = { s with regs := t.regs, flags := t.flags }

theorem countsRegister_of_exec {i : Instr} {dst : Reg8} {k nibble : Nat} {res : Byte} {f : Flags} {s : State}
    (executed : exec i s = .next ((s.setReg dst res).setFlags f))
    (counts : CountsTo k nibble (s.regs.get dst) res s.flags f) : CountsRegister i dst k nibble s := by
  obtain ⟨value, zsp, ac, cy⟩ := counts
  have written : ((s.setReg dst res).setFlags f).regs.get dst = res := Regs.get_set_self s.regs dst res
  rw [← written] at value zsp
  exact ⟨_, executed, value, fun _ other => Regs.get_set_other s.regs res other, zsp, ac, cy, rfl⟩

/-- Executing `i` counts the byte at HL by `k`, as INR M and DCR M do: one read, then one write. -/
def CountsMemory (i : Instr) (k nibble : Nat) (s : State) : Prop :=
  ∃ t res, exec i s = .next t ∧
    res.toNat = ((s.mem.read (s.pair .hl)).toNat + k) % 256 ∧
    (∀ x, t.mem.read x = if x = s.pair .hl then res else s.mem.read x) ∧
    ResultFlags t.flags res ∧ (t.flags.ac = true ↔ (s.mem.read (s.pair .hl)).toNat % 16 = nibble) ∧
    t.flags.cy = s.flags.cy ∧
    t = { s with
      mem := t.mem
      flags := t.flags
      bus := s.bus ++ [.memRead (s.pair .hl) (s.mem.read (s.pair .hl)), .memWrite (s.pair .hl) res] }

theorem countsMemory_of_exec {i : Instr} {k nibble : Nat} {res : Byte} {f : Flags} {s : State}
    (executed : exec i s = .next ((memWrite (s.pair .hl) res (memRead (s.pair .hl) s).2).setFlags f))
    (counts : CountsTo k nibble (s.mem.read (s.pair .hl)) res s.flags f) : CountsMemory i k nibble s := by
  obtain ⟨value, zsp, ac, cy⟩ := counts
  refine ⟨_, res, executed, value, fun x => Memory.read_write s.mem (s.pair .hl) x res, zsp, ac, cy, ?frame⟩
  simp [memRead_eq, memWrite_eq, State.setFlags]

/-- Settles O34: the register forms write a register, INR M reads and then writes its cell. -/
theorem inrIncrementsAndKeepsCarry : Obligations.InrIncrementsAndKeepsCarry :=
  ⟨fun dst s => ⟨encode_inrOf (.reg dst), countsRegister_of_exec (exec_inrOf (.reg dst) s) (countsTo_afterInr _ _)⟩,
    fun s => ⟨rfl, countsMemory_of_exec (exec_inrOf .mem s) (countsTo_afterInr _ _)⟩⟩

/-- Settles O35: the register forms write a register, DCR M reads and then writes its cell. -/
theorem dcrDecrementsAndKeepsCarry : Obligations.DcrDecrementsAndKeepsCarry :=
  ⟨fun dst s => ⟨encode_dcrOf (.reg dst), countsRegister_of_exec (exec_dcrOf (.reg dst) s) (countsTo_afterDcr _ _)⟩,
    fun s => ⟨rfl, countsMemory_of_exec (exec_dcrOf .mem s) (countsTo_afterDcr _ _)⟩⟩

/-! ### INX, DCX and DAD (R172 to R174) -/

theorem encode_inxOf (p : Pair) : encode (inxOf p) = [0b00#2 ++ pairCode p ++ 0b0011#4] := by
  cases p <;> rfl

theorem encode_dcxOf (p : Pair) : encode (dcxOf p) = [0b00#2 ++ pairCode p ++ 0b1011#4] := by
  cases p <;> rfl

theorem encode_dadOf (p : Pair) : encode (dadOf p) = [0b00#2 ++ pairCode p ++ 0b1001#4] := by
  cases p <;> rfl

/-- An execution that ends in one pair write leaves the other pairs, A and the flags alone. -/
theorem frame_of_exec_eq_setPair {i : Instr} {p : Pair} {v : Word} {n : Nat} {s : State}
    (executed : exec i s = .next (s.setPair p v)) (value : v.toNat = n) :
    ∃ t, exec i s = .next t ∧ (t.pair p).toNat = n ∧ (∀ q, q ≠ p → t.pair q = s.pair q) ∧
      t.regs.a = s.regs.a ∧ t = { s with regs := t.regs, sp := t.sp } := by
  obtain ⟨frame, a_kept⟩ := s.setPair_eq p v
  exact ⟨_, executed, by rw [State.pair_setPair_self, value], fun _ other => s.pair_setPair_other v other, a_kept, frame⟩

/-- Settles O36: INX and DCX are one pair write each. -/
theorem inxAndDcxWrapWithoutFlags : Obligations.InxAndDcxWrapWithoutFlags := by
  intro p s
  have up : (s.pair p + 1).toNat = ((s.pair p).toNat + 1) % 65536 := BitVec.toNat_add ..
  have down : (s.pair p - 1).toNat = ((s.pair p).toNat + 65535) % 65536 := by
    rw [BitVec.toNat_sub, Nat.add_comm]
    rfl
  exact ⟨⟨encode_inxOf p, frame_of_exec_eq_setPair (exec_inxOf p s) up⟩,
    ⟨encode_dcxOf p, frame_of_exec_eq_setPair (exec_dcxOf p s) down⟩⟩

/-- Settles O37: the sum written to HL, and its carry to CY. -/
theorem dadAddsToHlAndWritesCarry : Obligations.DadAddsToHlAndWritesCarry := by
  intro p s
  refine ⟨encode_dadOf p, _, exec_dadOf p s, ?sum, decide_eq_true_iff, rfl⟩
  calc ((s.setPair .hl (dadCompute (s.pair .hl) (s.pair p)).1).pair .hl).toNat
      = (dadCompute (s.pair .hl) (s.pair p)).1.toNat := by rw [State.pair_setPair_self]
    _ = ((s.pair .hl).toNat + (s.pair p).toNat) % 65536 := BitVec.toNat_ofNat ..

/-! ### DAA (R175) -/

/-- The first correction is taken: the low nibble of A exceeds 9, or AC was set. -/
def correctsLow (a : Byte) (ac : Bool) : Bool := decide (9 < a.toNat % 16) || ac

/-- The second correction is taken: the high nibble of the value after the first exceeds 9, or CY was set. -/
def correctsHigh (a1 : Byte) (cy : Bool) : Bool := decide (9 < a1.toNat / 16) || cy

/-- The value after the first correction. -/
def lowCorrected (a : Byte) (ac : Bool) : Byte := if correctsLow a ac then a + 0x06 else a

/-- The value after the second correction. -/
def highCorrected (a1 : Byte) (cy : Bool) : Byte := if correctsHigh a1 cy then a1 + 0x60 else a1

theorem highNibble_toNat (v : Byte) : (v >>> 4).toNat = v.toNat / 16 := Nat.shiftRight_eq_div_pow v.toNat 4

/-- DAA is its two corrections in order; each flag tells whether its correction was taken. -/
theorem daaCompute_eq (a : Byte) (cy ac : Bool) :
    daaCompute a cy ac =
      { res := highCorrected (lowCorrected a ac) cy
        cy := correctsHigh (lowCorrected a ac) cy
        ac := correctsLow a ac } := by
  have set_or_kept (p q : Bool) : (if (p || q) = true then true else q) = (p || q) := by
    cases p <;> simp
  simp only [daaCompute, lowNibble_toNat, highNibble_toNat, set_or_kept]
  rfl

theorem correctsLow_iff (a : Byte) (ac : Bool) : correctsLow a ac = true ↔ 9 < a.toNat % 16 ∨ ac = true := by
  rw [correctsLow, Bool.or_eq_true, decide_eq_true_iff]

theorem correctsHigh_iff (a1 : Byte) (cy : Bool) : correctsHigh a1 cy = true ↔ 9 < a1.toNat / 16 ∨ cy = true := by
  rw [correctsHigh, Bool.or_eq_true, decide_eq_true_iff]

theorem lowCorrected_toNat (a : Byte) (ac : Bool) :
    (lowCorrected a ac).toNat = if correctsLow a ac then (a.toNat + 6) % 256 else a.toNat := by
  rw [lowCorrected, apply_ite BitVec.toNat, BitVec.toNat_add]
  rfl

theorem highCorrected_toNat (a1 : Byte) (cy : Bool) :
    (highCorrected a1 cy).toNat = if correctsHigh a1 cy then (a1.toNat + 96) % 256 else a1.toNat := by
  rw [highCorrected, apply_ite BitVec.toNat, BitVec.toNat_add]
  rfl

theorem exec_daa (s : State) :
    exec .daa s = .next { s with
      regs := { s.regs with a := (daaCompute s.regs.a s.flags.cy s.flags.ac).res }
      flags := Flags.ofAlu (daaCompute s.regs.a s.flags.cy s.flags.ac) } := rfl

/-- Settles O38: the two corrections one after the other, `a1` being the value between them. -/
theorem daaCorrectsBothNibbles : Obligations.DaaCorrectsBothNibbles := by
  intro s
  have executed := exec_daa s
  rw [daaCompute_eq] at executed
  exact ⟨rfl, _, (lowCorrected s.regs.a s.flags.ac).toNat, executed, correctsLow_iff _ _, lowCorrected_toNat _ _,
    correctsHigh_iff _ _, highCorrected_toNat _ _, resultFlags_ofAlu _, rfl⟩

end Sys2Proof.Proofs
end

section
namespace Sys2Proof.Proofs

open Sys2Proof.Machine Sys2Proof.Claims

/-! ### The logical operations (42_logic_rotate.md R190 to R198, R206) -/

/-- An ALU operation whose result is a logical one, with `f` at every bit, is a combination of A and its operand. -/
theorem combinesWithA_of_exec_eq_aluOnA {i : Instr} {op : AluOp} {f : Bool → Bool → Bool} {v res : Byte}
    {events : List BusEvent} {s : State} (executed : exec i s = .next (aluOnA op v (s.record events)))
    (writes : op ≠ .cmp) (computed : aluCompute op s.regs.a v s.flags.cy = logic8 res)
    (bits : ∀ k, res.getLsbD k = f (s.regs.a.getLsbD k) (v.getLsbD k)) : CombinesWithA i f v events s := by
  rw [aluOnA_record writes, computed] at executed
  exact ⟨_, executed, fun k _ => bits k, resultFlags_ofAlu _, rfl, rfl, rfl⟩

section
variable {i : Instr} {v : Byte} {events : List BusEvent} {s : State}

theorem combinesWithA_ana (executed : exec i s = .next (aluOnA .ana v (s.record events))) :
    CombinesWithA i and v events s :=
  combinesWithA_of_exec_eq_aluOnA executed (by decide) rfl fun _ => BitVec.getLsbD_and

theorem combinesWithA_xra (executed : exec i s = .next (aluOnA .xra v (s.record events))) :
    CombinesWithA i xor v events s :=
  combinesWithA_of_exec_eq_aluOnA executed (by decide) rfl fun _ => BitVec.getLsbD_xor

theorem combinesWithA_ora (executed : exec i s = .next (aluOnA .ora v (s.record events))) :
    CombinesWithA i or v events s :=
  combinesWithA_of_exec_eq_aluOnA executed (by decide) rfl fun _ => BitVec.getLsbD_or

end

/-- Settles O41: each form is a bitwise operation of `aluCompute` on A and its operand, and `logic8` clears CY and AC. -/
theorem logicalOperationsClearCarries : Obligations.LogicalOperationsClearCarries := by
  refine ⟨fun src s => ⟨?ana, ?xra, ?ora⟩, fun d8 s => ⟨?ani, ?xri, ?ori⟩⟩
  case ana => exact ⟨encode_aluOf .ana src, combinesWithA_ana (exec_aluOf_eq_aluOnA .ana src s)⟩
  case xra => exact ⟨encode_aluOf .xra src, combinesWithA_xra (exec_aluOf_eq_aluOnA .xra src s)⟩
  case ora => exact ⟨encode_aluOf .ora src, combinesWithA_ora (exec_aluOf_eq_aluOnA .ora src s)⟩
  case ani => exact ⟨rfl, combinesWithA_ana (exec_aluImmOf_eq_aluOnA .ana d8 s)⟩
  case xri => exact ⟨rfl, combinesWithA_xra (exec_aluImmOf_eq_aluOnA .xra d8 s)⟩
  case ori => exact ⟨rfl, combinesWithA_ora (exec_aluImmOf_eq_aluOnA .ora d8 s)⟩

/-! ### CMA, STC, CMC (R199 to R201) -/

theorem exec_cma (s : State) :
    exec .cma s = .next { s with regs := { s.regs with a := ~~~s.regs.a } } := rfl

theorem exec_stc (s : State) :
    exec .stc s = .next { s with flags := { s.flags with cy := true } } := rfl

theorem exec_cmc (s : State) :
    exec .cmc s = .next { s with flags := { s.flags with cy := !s.flags.cy } } := rfl

theorem exec_cma_complemented (s : State) :
    exec .cma { s with regs := { s.regs with a := ~~~s.regs.a } } = .next s := by
  rw [exec_cma, BitVec.not_not]

theorem exec_cmc_complemented (s : State) :
    exec .cmc { s with flags := { s.flags with cy := !s.flags.cy } } = .next s := by
  rw [exec_cmc, Bool.not_not]

/-- Settles O42: each instruction writes its one field, and complementing twice gives the field back. -/
theorem cmaStcCmcEffects : Obligations.CmaStcCmcEffects := by
  refine fun s => ⟨?cma, ⟨rfl, exec_stc s⟩, ?cmc⟩
  case cma => exact ⟨rfl, _, exec_cma s, BitVec.toNat_not, rfl, exec_cma_complemented s⟩
  case cmc => exact ⟨rfl, _, exec_cmc s, rfl, exec_cmc_complemented s⟩

/-! ### The rotates (R202 to R205, R207) -/

theorem bit_zero_iff_odd (v : Byte) : v.getLsbD 0 = true ↔ v.toNat % 2 = 1 := by
  rw [BitVec.getLsbD, Nat.testBit_zero, decide_eq_true_iff]

theorem bit_zero_toNat (v : Byte) : (v.getLsbD 0).toNat = v.toNat % 2 := by
  rw [BitVec.getLsbD, Nat.toNat_testBit, pow_zero, Nat.div_one]

theorem bit_seven_toNat (v : Byte) : (v.getLsbD 7).toNat = v.toNat / 128 := by
  have v_lt := v.isLt
  rw [BitVec.getLsbD, Nat.toNat_testBit]
  omega

/-- The bit that comes in takes position 0, which the shift cleared: the OR is a sum. -/
theorem rotateLeft_toNat (a : Byte) (bitIn : Bool) :
    (rotateLeft a bitIn).1.toNat = 2 * a.toNat % 256 + bitIn.toNat := by
  have shifted : (a <<< 1).toNat = 2 ^ 1 * (a.toNat % 128) := by
    rw [BitVec.toNat_shiftLeft, Nat.shiftLeft_eq]
    omega
  have bit : (if bitIn then 0x01 else 0x00 : Byte).toNat = bitIn.toNat := by cases bitIn <;> rfl
  rw [rotateLeft, BitVec.toNat_or, shifted, bit, ← Nat.two_pow_add_eq_or_of_lt bitIn.toNat_lt]
  omega

/-- The bit that comes in takes position 7, which the shift cleared: the OR is a sum. -/
theorem rotateRight_toNat (a : Byte) (bitIn : Bool) :
    (rotateRight a bitIn).1.toNat = a.toNat / 2 + 128 * bitIn.toNat := by
  have shifted : (a >>> 1).toNat = a.toNat / 2 := Nat.shiftRight_eq_div_pow a.toNat 1
  have shifted_lt : a.toNat / 2 < 2 ^ 7 := by
    have a_lt := a.isLt
    omega
  have bit : (if bitIn then 0x80 else 0x00 : Byte).toNat = 2 ^ 7 * bitIn.toNat := by cases bitIn <;> rfl
  rw [rotateRight, BitVec.toNat_or, shifted, bit, Nat.or_comm, ← Nat.two_pow_add_eq_or_of_lt shifted_lt, Nat.add_comm]

/-- After a rotation to the left, bit 0 of A is the bit that came in. -/
theorem rotateLeft_bit_zero (a : Byte) (bitIn : Bool) : (rotateLeft a bitIn).1.getLsbD 0 = bitIn := by
  cases bitIn <;> simp [rotateLeft]

/-- The nine bits of A and the bit that left it, rotated to the right, are A and the bit that came in. -/
theorem rotateRight_rotateLeft (a : Byte) (bitIn : Bool) :
    rotateRight (rotateLeft a bitIn).1 (rotateLeft a bitIn).2 = (a, bitIn) := by
  have undone : (rotateRight (rotateLeft a bitIn).1 (rotateLeft a bitIn).2).1.toNat = a.toNat := by
    have out : (rotateLeft a bitIn).2.toNat = a.toNat / 128 := bit_seven_toNat a
    have a_lt := a.isLt
    have bit_lt := bitIn.toNat_lt
    rw [rotateRight_toNat, rotateLeft_toNat, out]
    omega
  exact Prod.ext (BitVec.eq_of_toNat_eq undone) (rotateLeft_bit_zero a bitIn)

theorem rotateA_eq (r : Byte × Bool) (s : State) :
    rotateA r s = .next { s with regs := { s.regs with a := r.1 }, flags := { s.flags with cy := r.2 } } := rfl

theorem exec_rlc (s : State) : exec .rlc s = rotateA (rotateLeft s.regs.a (s.regs.a.getLsbD 7)) s := rfl

theorem exec_rrc (s : State) : exec .rrc s = rotateA (rotateRight s.regs.a (s.regs.a.getLsbD 0)) s := rfl

theorem exec_ral (s : State) : exec .ral s = rotateA (rotateLeft s.regs.a s.flags.cy) s := rfl

theorem exec_rar (s : State) : exec .rar s = rotateA (rotateRight s.regs.a s.flags.cy) s := rfl

/-- RAR undoes RAL: CY holds the bit that left A, and the bit that leaves A now is the CY of before. -/
theorem exec_rar_of_exec_ral {s t : State} (executed : exec .ral s = .next t) : exec .rar t = .next s := by
  rw [exec_ral, rotateA_eq] at executed
  obtain rfl := Host.Outcome.next.inj executed
  rw [exec_rar, rotateRight_rotateLeft, rotateA_eq]

/-- RRC undoes RLC on A: the bit 7 that RLC moved to bit 0 comes in again at bit 7. -/
theorem exec_rrc_of_exec_rlc {s t : State} (executed : exec .rlc s = .next t) :
    ∃ u, exec .rrc t = .next u ∧ u.regs = s.regs := by
  rw [exec_rlc, rotateA_eq] at executed
  obtain rfl := Host.Outcome.next.inj executed
  have low_bit := rotateLeft_bit_zero s.regs.a (s.regs.a.getLsbD 7)
  have undone : rotateRight (rotateLeft s.regs.a (s.regs.a.getLsbD 7)).1 (s.regs.a.getLsbD 7) = _ :=
    rotateRight_rotateLeft s.regs.a (s.regs.a.getLsbD 7)
  refine ⟨_, (exec_rrc _).trans (rotateA_eq _ _), ?_⟩
  simp only [low_bit, undone]

/-- Settles O43: each rotation as a sum of the shifted A and the bit that comes in, and what undoes the two to the left. -/
theorem rotatesMoveOneBit : Obligations.RotatesMoveOneBit := by
  refine fun s => ⟨?rlc, ?rrc, ?ral, ?rar⟩
  case rlc =>
    have value := rotateLeft_toNat s.regs.a (s.regs.a.getLsbD 7)
    rw [bit_seven_toNat] at value
    exact ⟨rfl, _, exec_rlc s, value, bit_seven_iff_le_toNat _, rfl, exec_rrc_of_exec_rlc (exec_rlc s)⟩
  case rrc =>
    have value := rotateRight_toNat s.regs.a (s.regs.a.getLsbD 0)
    rw [bit_zero_toNat] at value
    exact ⟨rfl, _, exec_rrc s, value, bit_zero_iff_odd _, rfl⟩
  case ral =>
    exact ⟨rfl, _, exec_ral s, rotateLeft_toNat _ _, bit_seven_iff_le_toNat _, rfl, exec_rar_of_exec_ral (exec_ral s)⟩
  case rar =>
    exact ⟨rfl, _, exec_rar s, rotateRight_toNat _ _, bit_zero_iff_odd _, rfl⟩

end Sys2Proof.Proofs
end

section
namespace Sys2Proof.Proofs

open Sys2Proof.Machine Sys2Proof.Claims

/-! ### Jumps (43_branch.md R221, R249, R250) -/

theorem exec_jmp (a16 : Word) (s : State) : exec (.jmp a16) s = .next { s with pc := a16 } := rfl

theorem exec_jmpCB (a16 : Word) (s : State) : exec (.jmpCB a16) s = .next { s with pc := a16 } := rfl

theorem exec_pchl (s : State) : exec .pchl s = .next { s with pc := s.pair .hl } := rfl

/-- Settles O44: each is one write of PC. -/
theorem jumpsGoToTheirTarget : Obligations.JumpsGoToTheirTarget := fun a16 s =>
  ⟨⟨rfl, exec_jmp a16 s⟩, ⟨rfl, exec_jmpCB a16 s⟩, ⟨rfl, exec_pchl s⟩⟩

/-! ### Calls and RST (R230, R248, R252) -/

/-- A push changes the two cells below SP, also where they wrap. -/
theorem holdsWord_push16 (v : Word) (s : State) : HoldsWord (push16 v s) s (s.sp - 2) v := by
  intro x
  have high_address : s.sp - 2 + 1 = s.sp - 1 := by bv_omega
  simp only [push16_eq, Memory.read_write, high_address]

/-- An execution that ends in a push and a write of PC. -/
theorem pushesAndGoesTo_of_exec_eq_push16 {i : Instr} {v target : Word} {s : State}
    (h : exec i s = .next ((push16 v s).setPc target)) : PushesAndGoesTo i v target s :=
  ⟨_, h, holdsWord_push16 v s, by rw [push16_eq]; rfl⟩

theorem pushesAndGoesTo_of_exec_eq_callTo {i : Instr} {target : Word} {s : State}
    (h : exec i s = callTo target s) : PushesAndGoesTo i s.pc target s :=
  pushesAndGoesTo_of_exec_eq_push16 h

theorem exec_call (a16 : Word) (s : State) : exec (.call a16) s = callTo a16 s := rfl

/-- Settles O46: CALL and each of its duplicates is the one call operation. -/
theorem callsPushReturnAddressAndJump : Obligations.CallsPushReturnAddressAndJump := fun a16 s =>
  ⟨⟨rfl, pushesAndGoesTo_of_exec_eq_callTo (exec_call a16 s)⟩, ⟨rfl, pushesAndGoesTo_of_exec_eq_callTo rfl⟩,
    ⟨rfl, pushesAndGoesTo_of_exec_eq_callTo rfl⟩, ⟨rfl, pushesAndGoesTo_of_exec_eq_callTo rfl⟩⟩

theorem encode_rstOf (n : BitVec 3) : encode (rstOf n) = [0b11#2 ++ n ++ 0b111#3] := by
  obtain ⟨n⟩ := n
  fin_cases n <;> rfl

/-- RST n is a call of the address 8 n. -/
theorem exec_rstOf (n : BitVec 3) (s : State) :
    exec (rstOf n) s = callTo (BitVec.ofNat 16 (8 * n.toNat)) s := by
  obtain ⟨n⟩ := n
  fin_cases n <;> rfl

/-- Settles O50: RST is the call operation at its own address. -/
theorem rstCallsItsFixedAddress : Obligations.RstCallsItsFixedAddress := fun n s =>
  ⟨encode_rstOf n, pushesAndGoesTo_of_exec_eq_callTo (exec_rstOf n s)⟩

/-! ### Returns (R239, R251) -/

theorem returnFromStack_eq (s : State) : returnFromStack s =
    .next { s with pc := wordAt s s.sp, sp := s.sp + 2, bus := s.bus ++ wordReads s s.sp } := by
  rw [returnFromStack, pop16_eq]
  rfl

theorem popsPc_of_exec_eq_returnFromStack {i : Instr} {s : State} (h : exec i s = returnFromStack s) : PopsPc i s :=
  h.trans (returnFromStack_eq s)

theorem popsPc_ret (s : State) : PopsPc .ret s := popsPc_of_exec_eq_returnFromStack rfl

/-- Settles O48: RET and its duplicate are the one return operation. -/
theorem returnsPopPc : Obligations.ReturnsPopPc := fun s =>
  ⟨⟨rfl, popsPc_ret s⟩, ⟨rfl, popsPc_of_exec_eq_returnFromStack rfl⟩⟩

/-- The word that stands at `a` where two bytes agree with those of a state that holds `v` there. -/
theorem wordAt_of_holdsWord {s t u : State} {a v : Word} (held : HoldsWord t s a v)
    (low : u.mem.read a = t.mem.read a) (high : u.mem.read (a + 1) = t.mem.read (a + 1)) : wordAt u a = v := by
  rw [wordAt, low, high, read_low_of_holdsWord held, read_high_of_holdsWord held, wordOf_hiByte_loByte]

/-- Settles O51: RET takes off the word that CALL pushed, the address after the CALL. -/
theorem callThenReturnComesBack : Obligations.CallThenReturnComesBack := by
  intro a16 s t u called hsp low high
  obtain ⟨t', called', held, frame⟩ := pushesAndGoesTo_of_exec_eq_callTo (exec_call a16 s)
  obtain rfl : t = t' := Host.Outcome.next.inj (called.symm.trans called')
  have pushed_sp : t.sp = s.sp - 2 := congrArg State.sp frame
  rw [pushed_sp] at hsp low high
  refine ⟨_, popsPc_ret u, ?pc, ?sp⟩
  case pc => exact (congrArg (wordAt u) hsp).trans (wordAt_of_holdsWord held low high)
  case sp => exact (congrArg (· + 2) hsp).trans (BitVec.sub_add_cancel s.sp 2)

/-! ### Conditional branches (R220, R222 to R229, R231 to R238, R240 to R247) -/

/-- The flag that a condition tests (R220). -/
def condFlag (ccc : Cond) (f : Flags) : Bool :=
  match ccc with
  | .nz | .z => f.z
  | .nc | .c => f.cy
  | .po | .pe => f.p
  | .p | .m => f.s

/-- The value of its flag that a condition asks for (R220). -/
def condValue (ccc : Cond) : Bool :=
  match ccc with
  | .nz | .nc | .po | .p => false
  | .z | .c | .pe | .m => true

/-- A condition holds when its flag has the value it asks for. -/
theorem condHolds_iff (ccc : Cond) (f : Flags) : condHolds ccc f = true ↔ condFlag ccc f = condValue ccc := by
  cases ccc with
  | z | c | pe | m => exact Iff.rfl
  | nz | nc | po | p => exact iff_of_eq (Bool.not_eq_true' _)

theorem jumpIf_eq (ccc : Cond) (a16 : Word) (s : State) : jumpIf ccc a16 s =
    .next (if condFlag ccc s.flags = condValue ccc then { s with pc := a16 } else s) := by
  simp only [jumpIf, condHolds_iff, State.setPc, apply_ite Host.Outcome.next]

theorem callIf_eq (ccc : Cond) (a16 : Word) (s : State) : callIf ccc a16 s =
    if condFlag ccc s.flags = condValue ccc then callTo a16 s else .next s := by
  simp only [callIf, condHolds_iff]

theorem returnIf_eq (ccc : Cond) (s : State) : returnIf ccc s =
    if condFlag ccc s.flags = condValue ccc then returnFromStack s else .next s := by
  simp only [returnIf, condHolds_iff]

theorem encode_jccOf (ccc : Cond) (a16 : Word) :
    encode (jccOf ccc a16) = [0b11#2 ++ condCode ccc ++ 0b010#3, loByte a16, hiByte a16] := by
  cases ccc <;> rfl

theorem encode_cccOf (ccc : Cond) (a16 : Word) :
    encode (cccOf ccc a16) = [0b11#2 ++ condCode ccc ++ 0b100#3, loByte a16, hiByte a16] := by
  cases ccc <;> rfl

theorem encode_rccOf (ccc : Cond) : encode (rccOf ccc) = [0b11#2 ++ condCode ccc ++ 0b000#3] := by
  cases ccc <;> rfl

theorem exec_jccOf_eq (ccc : Cond) (a16 : Word) (s : State) : exec (jccOf ccc a16) s =
    .next (if condFlag ccc s.flags = condValue ccc then { s with pc := a16 } else s) :=
  (exec_jccOf ccc a16 s).trans (jumpIf_eq ccc a16 s)

/-- A conditional call is a call when its flag has the value it asks for, and nothing otherwise. -/
theorem cccOf_pushes_or_changesNothing (ccc : Cond) (a16 : Word) (s : State) :
    if condFlag ccc s.flags = condValue ccc then PushesAndGoesTo (cccOf ccc a16) s.pc a16 s
    else ChangesNothing (cccOf ccc a16) s := by
  have executed := (exec_cccOf ccc a16 s).trans (callIf_eq ccc a16 s)
  split_ifs at executed ⊢
  · exact pushesAndGoesTo_of_exec_eq_callTo executed
  · exact executed

/-- A conditional return is a return when its flag has the value it asks for, and nothing otherwise. -/
theorem rccOf_popsPc_or_changesNothing (ccc : Cond) (s : State) :
    if condFlag ccc s.flags = condValue ccc then PopsPc (rccOf ccc) s else ChangesNothing (rccOf ccc) s := by
  have executed := (exec_rccOf ccc s).trans (returnIf_eq ccc s)
  split_ifs at executed ⊢
  · exact popsPc_of_exec_eq_returnFromStack executed
  · exact executed

/-- Settles O45: the equation of the family, at each of the eight conditions. -/
theorem conditionalJumpsTestTheirFlag : Obligations.ConditionalJumpsTestTheirFlag := fun a16 s =>
  have jumps (ccc : Cond) := And.intro (encode_jccOf ccc a16) (exec_jccOf_eq ccc a16 s)
  ⟨jumps .nz, jumps .z, jumps .nc, jumps .c, jumps .po, jumps .pe, jumps .p, jumps .m⟩

/-- Settles O47: the behaviour of the family, at each of the eight conditions. -/
theorem conditionalCallsTestTheirFlag : Obligations.ConditionalCallsTestTheirFlag := fun a16 s =>
  have calls (ccc : Cond) := And.intro (encode_cccOf ccc a16) (cccOf_pushes_or_changesNothing ccc a16 s)
  ⟨calls .nz, calls .z, calls .nc, calls .c, calls .po, calls .pe, calls .p, calls .m⟩

/-- Settles O49: the behaviour of the family, at each of the eight conditions. -/
theorem conditionalReturnsTestTheirFlag : Obligations.ConditionalReturnsTestTheirFlag := fun s =>
  have returns (ccc : Cond) := And.intro (encode_rccOf ccc) (rccOf_popsPc_or_changesNothing ccc s)
  ⟨returns .nz, returns .z, returns .nc, returns .c, returns .po, returns .pe, returns .p, returns .m⟩

end Sys2Proof.Proofs
end

section
namespace Sys2Proof.Proofs

open Sys2Proof.Machine Sys2Proof.Claims

/-! ### PUSH and POP (44_stack.md R271 to R274) -/

/-- PUSH is a push that leaves PC where it stands. -/
theorem pushesAndGoesTo_pushOf (p : StackPair) (s : State) :
    PushesAndGoesTo (pushOf p) (stackWord p s) s.pc s := by
  have pc_kept : (push16 (stackWord p s) s).setPc s.pc = push16 (stackWord p s) s := rfl
  exact pushesAndGoesTo_of_exec_eq_push16 (by rw [exec_pushOf, pc_kept])

/-- Settles O52: the behaviour of the family, at each pair and at PSW. -/
theorem pushStoresHighThenLow : Obligations.PushStoresHighThenLow := fun s =>
  have pushes (p : StackPair) := pushesAndGoesTo_pushOf p s
  ⟨⟨rfl, pushes .bc⟩, ⟨rfl, pushes .de⟩, ⟨rfl, pushes .hl⟩, ⟨rfl, pushes .psw⟩⟩

/-- POP reads the word at SP, moves SP past it, and writes it to its pair or PSW. -/
theorem exec_popOf_eq (p : StackPair) (s : State) : exec (popOf p) s =
    .next (setStackWord p (wordAt s s.sp) { s with sp := s.sp + 2, bus := s.bus ++ wordReads s s.sp }) := by
  rw [exec_popOf, pop16_eq]
  rfl

theorem exec_popPsw (s : State) : exec .popPsw s = .next { s with
    regs := { s.regs with a := s.mem.read (s.sp + 1) }
    flags := Flags.ofByte (s.mem.read s.sp)
    sp := s.sp + 2
    bus := s.bus ++ wordReads s s.sp } := by
  refine (exec_popOf_eq .psw s).trans ?_
  simp [setStackWord, State.setReg, State.setRegs, State.setFlags, Regs.set, wordAt]

/-- Settles O53: each pair takes the two halves of the word; the flags are the bits that unpacking reads. -/
theorem popLoadsLowThenHigh : Obligations.PopLoadsLowThenHigh := by
  intro s
  have pops (p : StackPair) := exec_popOf_eq p s
  refine ⟨⟨rfl, (pops .bc).trans ?bc⟩, ⟨rfl, (pops .de).trans ?de⟩, ⟨rfl, (pops .hl).trans ?hl⟩, rfl, ?psw⟩
  case bc | de | hl => simp [setStackWord, State.setPair, State.setRegs, wordAt]
  case psw => exact ⟨_, exec_popPsw s, rfl, flagsByte_ofByte _, rfl, rfl, rfl, rfl, rfl, rfl⟩

/-! ### XTHL and SPHL (R275, R276) -/

/-- XTHL reads the word at SP, writes HL in its place, and puts the word read in HL. -/
theorem exec_xthl (s : State) : exec .xthl s = .next { s with
    regs := { s.regs with l := s.mem.read s.sp, h := s.mem.read (s.sp + 1) }
    mem := (memWrite16 s.sp (s.pair .hl) s).mem
    bus := s.bus ++ wordReads s s.sp ++ [.memWrite s.sp s.regs.l, .memWrite (s.sp + 1) s.regs.h] } := by
  have unfolded : exec .xthl s =
      .next ((memWrite16 s.sp (s.pair .hl) (memRead16 s.sp s).2).setPair .hl (memRead16 s.sp s).1) := rfl
  rw [unfolded, memRead16_eq]
  simp [memWrite16_eq, State.setPair, State.setRegs, State.pair, wordReads]

/-- Storing a word, then the word that stood there, gives every byte back. -/
theorem read_restored_of_holdsWord {s t u : State} {a v : Word} (stored : HoldsWord t s a v)
    (restored : HoldsWord u t a (wordAt s a)) (x : Word) : u.mem.read x = s.mem.read x := by
  rw [restored x, stored x, wordAt, loByte_wordOf, hiByte_wordOf]
  split_ifs with low high
  · rw [low]
  · rw [high]
  · rfl

/-- Settles O55: HL is stored over the word at SP; a second XTHL reads HL back and stores that word again. -/
theorem xthlSwapsHlWithStackTop : Obligations.XthlSwapsHlWithStackTop := by
  intro s
  have stored := holdsWord_memWrite16 s.sp (s.pair .hl) s
  refine ⟨rfl, _, exec_xthl s, ?swapped, rfl, _, exec_xthl _, ?regs, rfl, ?memory⟩
  case swapped => simpa [HoldsWord, State.pair] using stored
  case regs =>
    have low := (read_low_of_holdsWord stored).trans (loByte_wordOf s.regs.h s.regs.l)
    have high := (read_high_of_holdsWord stored).trans (hiByte_wordOf s.regs.h s.regs.l)
    simp only [low, high]
  case memory => exact read_restored_of_holdsWord stored (holdsWord_memWrite16 s.sp _ _)

theorem exec_sphl (s : State) : exec .sphl s = .next { s with sp := s.pair .hl } := rfl

/-- Settles O56: SPHL is one write of SP. -/
theorem sphlCopiesHlToSp : Obligations.SphlCopiesHlToSp := fun s => ⟨rfl, exec_sphl s⟩

end Sys2Proof.Proofs
end

section
namespace Sys2Proof.Proofs

open Sys2Proof.Machine Sys2Proof.Claims

/-! ### HLT (45_control_io.md R290) -/

theorem exec_hlt (s : State) : exec .hlt s = .next (s.setHalted true) := rfl

/-- A step on a HLT at PC sets HALTED in the state that fetching its one byte leaves. -/
theorem step_of_hlt_at_pc {s : State} (running : s.halted = false) (hlt_at_pc : s.mem.read s.pc = 0x76) :
    step s = .next ((fetched .hlt s).setHalted true) := by
  have decoded : (fetch s).1 = .hlt := (fetch_eq_hlt_iff s).mpr hlt_at_pc
  rw [step_eq_exec_fetch running, fetch_eq_fetched, decoded, exec_hlt]

theorem fetched_hlt_pc (s : State) : (fetched .hlt s).pc = s.pc + 1 := rfl

/-- Settles O57: the step on a HLT leaves a halted machine, and a halted machine does not step. -/
theorem hltHaltsOnePastItself : Obligations.HltHaltsOnePastItself := by
  refine ⟨fun s => ⟨rfl, exec_hlt s⟩, fun s running hlt_at_pc => ?stepped, fun _ _ _ _ => ⟨rfl, rfl⟩⟩
  case stepped => exact ⟨_, step_of_hlt_at_pc running hlt_at_pc, fetched_hlt_pc s, rfl, step_of_halted rfl⟩

/-! ### NOP, RIM, SIM, EI and DI (R291 to R296) -/

theorem exec_nop (s : State) : exec .nop s = .next s := rfl

theorem exec_rim (s : State) : exec .rim s = .next s := rfl

/-- Settles O58: NOP and RIM by their own arms, SIM among the aliases of NOP. -/
theorem nopsRimAndSimChangeNothing : Obligations.NopsRimAndSimChangeNothing := by
  intro s
  have nopAlias (i : Instr) := exec_nopAlias s (i := i)
  exact ⟨⟨rfl, exec_nop s⟩, ⟨rfl, nopAlias .nop08 (by decide)⟩, ⟨rfl, nopAlias .nop10 (by decide)⟩,
    ⟨rfl, nopAlias .nop18 (by decide)⟩, ⟨rfl, nopAlias .nop28 (by decide)⟩, ⟨rfl, nopAlias .nop38 (by decide)⟩,
    ⟨rfl, exec_rim s⟩, ⟨rfl, nopAlias .sim (by decide)⟩⟩

theorem exec_ei (s : State) : exec .ei s = .next (s.setInte true) := rfl

theorem exec_di (s : State) : exec .di s = .next (s.setInte false) := rfl

/-- Settles O59: EI and DI are one write of INTE each. -/
theorem eiAndDiWriteInte : Obligations.EiAndDiWriteInte := fun s => ⟨⟨rfl, exec_ei s⟩, ⟨rfl, exec_di s⟩⟩

/-! ### IN and OUT (R297, R298) -/

theorem exec_inPort (d8 : Byte) (s : State) : exec (.inPort d8) s = .next { s with
    regs := { s.regs with a := Config.portIn d8 s.portReads }
    bus := s.bus ++ [.portIn d8 (Config.portIn d8 s.portReads)]
    portReads := s.portReads + 1 } := rfl

theorem exec_outPort (d8 : Byte) (s : State) :
    exec (.outPort d8) s = .next { s with bus := s.bus ++ [.portOut d8 s.regs.a] } := rfl

/-- A history that grows by port transactions alone grows the I/O trace by the same. -/
theorem ioTrace_of_bus_eq_append {s t : State} {events : List BusEvent} (grown : t.bus = s.bus ++ events)
    (ports : { s with bus := events }.ioTrace = events) : t.ioTrace = s.ioTrace ++ events := by
  rw [State.ioTrace, grown, List.filter_append]
  exact congrArg (s.ioTrace ++ ·) ports

/-- Settles O60: each adds its one port transaction to the history, and so to the trace. -/
theorem inAndOutMakeOnePortTransaction : Obligations.InAndOutMakeOnePortTransaction := fun d8 s =>
  ⟨⟨rfl, _, exec_inPort d8 s, rfl, rfl, ioTrace_of_bus_eq_append rfl rfl⟩,
    ⟨rfl, _, exec_outPort d8 s, rfl, ioTrace_of_bus_eq_append rfl rfl⟩⟩

end Sys2Proof.Proofs
end

section
namespace Sys2Proof.Proofs

open Sys2Proof.Machine Sys2Proof.Claims

/-! ### Load (70_reset_and_hazards.md R352) -/

@[simp] theorem load_nil (m : Memory) (base : Word) : m.load [] base = m := rfl

@[simp] theorem load_cons (m : Memory) (v : Byte) (rest : List Byte) (base : Word) :
    m.load (v :: rest) base = (m.write base v).load rest (base + 1) := rfl

/-- The address of byte j + 1 of a load is the address of byte j of the load that starts one cell later. -/
theorem loadAddress_succ (base : Word) (j : Nat) : base + BitVec.ofNat 16 (j + 1) = base + 1 + BitVec.ofNat 16 j := by
  rw [Nat.add_comm, BitVec.ofNat_add, BitVec.add_assoc]
  rfl

theorem read_load_outside {bytes : List Byte} {base x : Word} (m : Memory)
    (outside : ∀ j, j < bytes.length → base + BitVec.ofNat 16 j ≠ x) : (m.load bytes base).read x = m.read x := by
  induction bytes generalizing m base with
  | nil => rw [load_nil]
  | cons v rest ih =>
    have first : x ≠ base := fun h => outside 0 (Nat.succ_pos _) ((BitVec.add_zero base).trans h.symm)
    have others : ∀ j, j < rest.length → base + 1 + BitVec.ofNat 16 j ≠ x := fun j hj =>
      loadAddress_succ base j ▸ outside (j + 1) (Nat.succ_lt_succ hj)
    rw [load_cons, ih _ others, Memory.read_write_other m v first]

/-- The last byte loaded at an address is the one read there: its write is followed by the load of the bytes after it,
none of which goes to that address. -/
theorem read_load_last {bytes : List Byte} {base : Word} {j : Nat} (m : Memory) (hj : j < bytes.length)
    (last : ∀ k, j < k → k < bytes.length → base + BitVec.ofNat 16 k ≠ base + BitVec.ofNat 16 j) :
    (m.load bytes base).read (base + BitVec.ofNat 16 j) = bytes.getD j 0 := by
  induction bytes generalizing m base j with
  | nil => exact absurd hj (Nat.not_lt_zero j)
  | cons v rest ih =>
    have later : ∀ k, j < k + 1 → k < rest.length →
        base + 1 + BitVec.ofNat 16 k ≠ base + BitVec.ofNat 16 j := fun k hjk hk =>
      loadAddress_succ base k ▸ last (k + 1) hjk (Nat.succ_lt_succ hk)
    cases j with
    | zero =>
      have kept := read_load_outside (m.write base v) fun k => later k (Nat.succ_pos k)
      rw [load_cons, kept, BitVec.ofNat_eq_ofNat, BitVec.add_zero, Memory.read_write_self]
      rfl
    | succ j =>
      simp only [loadAddress_succ base j] at later ⊢
      exact ih _ (Nat.lt_of_succ_lt_succ hj) fun k hjk => later k (Nat.succ_lt_succ hjk)

/-- Settles O17: a load is one write for each byte in ascending order, and a write changes one cell. -/
theorem loadWritesExactlyItsRange : Obligations.LoadWritesExactlyItsRange := fun _ _ s =>
  ⟨_, rfl, rfl, fun _ => read_load_outside s.mem, fun _ => read_load_last s.mem⟩

/-! ### Run (R345, R351) -/

theorem hostRun_of_halted (stops : List Bool) {s : State} (h : s.halted = true) : hostRun stops s = .next s := by
  cases stops <;> simp [hostRun, h]

theorem hostRun_nil (s : State) : hostRun [] s = .next s := rfl

theorem hostRun_true_cons (later : List Bool) (s : State) : hostRun (true :: later) s = .next s := by
  simp [hostRun]

/-- A false answer lets one step run. On a halted machine neither the step nor the rest of the run does anything. -/
theorem hostRun_false_cons (rest : List Bool) {s t : State} (stepped : step s = .next t) :
    hostRun (false :: rest) s = hostRun rest t := by
  cases hs : s.halted with
  | true =>
    obtain rfl : s = t := Host.Outcome.next.inj ((step_of_halted hs).symm.trans stepped)
    rw [hostRun_of_halted _ hs, hostRun_of_halted _ hs]
  | false => simp [hostRun, hs, stepped]

theorem coreRun_succ {M : Host.Core} (n : Nat) {s t : M.State} (stepped : M.step s = .next t) :
    M.run (n + 1) s = M.run n t := by
  rw [Host.Core.run, stepped]

/-- n false answers run n steps of the machine, and the run goes on with the other answers from there. -/
theorem hostRun_falses_append (n : Nat) (rest : List Bool) (s : State) :
    ∃ t : State, Host.Core.run Sys2Proof.core n s = .next t ∧
      hostRun (List.replicate n false ++ rest) s = hostRun rest t := by
  induction n generalizing s with
  | zero => exact ⟨s, rfl, rfl⟩
  | succ n ih =>
    obtain ⟨t, stepped⟩ := everyStateSteps s
    rw [coreRun_succ (M := Sys2Proof.core) n stepped, List.replicate_succ, List.cons_append,
      hostRun_false_cons _ stepped]
    exact ih t

/-- Settles O19: after n false answers a run is where n steps lead, and it ends there both when no answer is left and
when the next one is true. -/
theorem runIsRepeatedStep : Obligations.RunIsRepeatedStep := by
  refine fun n s => ⟨?answersEnd, fun later => ?answeredTrue⟩
  case answersEnd =>
    obtain ⟨t, steps, run⟩ := hostRun_falses_append n [] s
    rw [List.append_nil] at run
    exact run.trans ((hostRun_nil t).trans steps.symm)
  case answeredTrue =>
    obtain ⟨t, steps, run⟩ := hostRun_falses_append n (true :: later) s
    exact run.trans ((hostRun_true_cons later t).trans steps.symm)

/-! ### Reset (R340 to R343) -/

@[simp] theorem regs_get_zero (r : Reg8) : Regs.zero.get r = 0 := by cases r <;> rfl

theorem flagsByte_clear : Flags.clear.byte = Config.flagsFixed := BitVec.zero_or

theorem hostReset_hostReset (s : State) : hostReset (hostReset s) = hostReset s := rfl

theorem hostReset_reset : hostReset State.reset = State.reset := rfl

/-- Settles O16: reset is the power-on state with the memory, the history and the counter of before. -/
theorem resetZeroesRegistersAndKeepsMemory : Obligations.ResetZeroesRegistersAndKeepsMemory := by
  refine ⟨fun s => ⟨_, rfl, regs_get_zero, ?otherFields⟩, hostReset_reset, Memory.read_nil⟩
  exact ⟨rfl, rfl, rfl, rfl, rfl, rfl, rfl, rfl, rfl, rfl, rfl, rfl, rfl, rfl, rfl, flagsByte_clear,
    hostReset_hostReset s⟩

/-! ### Snapshot (R353) -/

/-- Masking a byte with one bit tests that bit. -/
theorem and_twoPow_ne_zero_iff (v : Byte) {k : Nat} (hk : k < 8) :
    v &&& BitVec.twoPow 8 k ≠ 0 ↔ v.getLsbD k = true := by
  have bit_ne_zero : BitVec.twoPow 8 k ≠ 0#8 := by
    rw [Ne, ← BitVec.toNat_inj, BitVec.toNat_twoPow_of_lt hk]
    exact Nat.two_pow_pos k |>.ne'
  rw [BitVec.and_twoPow]
  cases v.getLsbD k <;> simp [bit_ne_zero]

/-- Settles O18: each field is the state's own, and each mask tests the bit at which the Flags byte holds the flag. -/
theorem snapshotReportsTheState : Obligations.SnapshotReportsTheState := by
  intro s
  obtain ⟨sign, zero, auxCarry, parity, carry, -⟩ := flagsBytePacksAndUnpacks.1 s.flags
  refine ⟨rfl, rfl, rfl, rfl, rfl, rfl, rfl, rfl, rfl, rfl, rfl, ?s, ?z, ?ac, ?p, ?cy⟩
  case s => exact sign ▸ and_twoPow_ne_zero_iff s.flags.byte (k := 7) (by decide)
  case z => exact zero ▸ and_twoPow_ne_zero_iff s.flags.byte (k := 6) (by decide)
  case ac => exact auxCarry ▸ and_twoPow_ne_zero_iff s.flags.byte (k := 4) (by decide)
  case p => exact parity ▸ and_twoPow_ne_zero_iff s.flags.byte (k := 2) (by decide)
  case cy => exact carry ▸ and_twoPow_ne_zero_iff s.flags.byte (k := 0) (by decide)

end Sys2Proof.Proofs
end
